-- ==== Sys2Proof/Word.lean ====
section
/-! DEFINITION. The plain word types of the model: the bytes the ports carry (R187) and the bounded numbers that name
ports, doors and rooms (R27, R38, R163). Times and counts are natural numbers, since the manual holds them at their
limits and never wraps them (R45). -/

namespace Sys2Proof

/-- One byte as the ports carry it (R187). -/
abbrev Byte := BitVec 8

/-- Two bytes, most significant first on the wire but for the CRC-16 of the estate link (R187). -/
abbrev Word16 := BitVec 16

/-- A permit number or an estate time as it is carried: four bytes (R187). -/
abbrev Word32 := BitVec 32

/-- A credential: five bytes on the wire (R187), the identity read from a card. -/
abbrev Credential := BitVec 40

/-- A permit number (R2): four bytes on the wire (R187). -/
abbrev PermitNo := BitVec 32

/-- A door port, 0 to 3 (R163). -/
abbrev PortId := Fin 4

/-- A door number that has a record in the door map, 0 to 31 (R38). -/
abbrev DoorId := Fin 32

/-- A room number that has a record in the room table, 0 to 15 (R27). -/
abbrev RoomId := Fin 16

/-- An estate time in whole seconds (R1); the rules hold it within 0 and 4,294,967,295 (R45). -/
abbrev EstateTime := Nat

end Sys2Proof
end

