-- ==== Sys2Proof/Config.lean ====
section
/-! DEFINITION. The limits the manual fixes for the part, and the free values: choices the manual leaves open, each an
opaque constant that no proof can see into. -/

namespace Sys2Proof.Config

/-- The greatest estate time; sums are held here (R45). -/
def timeMax : Nat := 4294967295

/-- The elapsed count holds here, and SET becomes LOST here (R45, R48). -/
def elapsedMax : Nat := 3686400

/-- Seconds in an estate day (R1). -/
def daySeconds : Nat := 86400

/-- Records in the permit table at most (R5). -/
def permitsMax : Nat := 1024

/-- Permits of one credential at most (R5). -/
def permitsPerCredential : Nat := 8

/-- Roster records at most (R90). -/
def rosterMax : Nat := 96

/-- Journal records at most (R179). -/
def journalMax : Nat := 256

/-- The journal count at which contractors are refused JOURNAL_FULL (R73). -/
def journalGuard : Nat := 192

/-- Places of a door port's outbound queue (R165). -/
def portPlaces : Nat := 16

/-- Receive places of the estate link (R169), and the receive credits of the part's HELLO (R170). -/
def receivePlaces : Nat := 8

/-- Replies that may wait before frames are no longer taken (R172). -/
def repliesMax : Nat := 8

/-- The maximum payload the part's HELLO declares (R170). -/
def payloadMax : Nat := 240

/-- Places of the store's write queue (R182). -/
def writeQueueMax : Nat := 32

/-- Pages of the store's main area (R182). -/
def storePages : Nat := 48

/-- Slots of one page (R182). -/
def pageSlots : Nat := 32

/-- Slots of the main area: 48 pages of 32 (R182). -/
def storeSlots : Nat := 1536

/-- Compaction is wanted below this many ERASED slots (R182). -/
def compactionLimit : Nat := 64

/-- FREE VALUE (DESIGN CHOICE, log entry 9). R182 lets compaction copy into an ERASED slot of another page without
saying which: the n-th such choice, read modulo the number of slots that may be chosen. -/
opaque copyTarget : Nat → Nat

/-- FREE VALUE (DESIGN CHOICE, log entry 9). R182 does not say in which order compaction copies the WRITTEN slots of its
page: the n-th such choice, read modulo the number of slots still to copy. -/
opaque copyOrder : Nat → Nat

/-- FREE VALUE (DESIGN CHOICE, log entry 10). Whether a mark, or a retirement of start-up, that a device reset cut short
has taken effect in the flash: the manual states the outcome for slot programs, for the retirements of the write queue and
for page erases only. -/
opaque cutShort : Nat → Bool

/-- FREE VALUE (DESIGN CHOICE, log entry 57). Whether a first presenter's slot ends where a second presenter is refused
ISOLATION and the first would be as well: R141 says it does, R83 that the slot is left as it was. -/
opaque isolationEndsPairing : Bool

end Sys2Proof.Config
end

