-- ==== Sys2Proof/Syntax.lean ====
section
/-! DEFINITION. The commands of the part: one constructor of `Instr` for each row of the table of operations and events,
with the row's operands, and the operand types they carry. -/

namespace Sys2Proof

/-- What a permit's holder is admitted as (R2). -/
inductive PermitKind where
  | contractor
  | escort
  deriving DecidableEq, Repr

/-- A permit's escort requirement (R2): NONE or ESCORT. -/
inductive EscortReq where
  | noEscort
  | escort
  deriving DecidableEq, Repr

/-- The definition fields of a permit (R2). An absent optional field places no limit of its own (R4). -/
structure PermitDef where
  number : PermitNo
  cred : Credential
  kind : PermitKind
  requirement : EscortReq
  /-- The set of rooms, bit k for room k (R187). -/
  rooms : BitVec 16
  windowStart : Nat
  windowEnd : Nat
  /-- The set of weekdays, bit d for weekday d, 0 Monday (R187). -/
  weekdays : Option (BitVec 7)
  /-- Daily hours: from and to, seconds of the day. -/
  hours : Option (Nat × Nat)
  budget : Option Nat
  coverLimit : Option Nat
  deriving DecidableEq, Repr

/-- Whether a room may hold one person alone (R27). -/
inductive PresenceRule where
  | any
  | paired
  deriving DecidableEq, Repr

/-- Which held-class changes are journaled (R27, R142). -/
inductive IsolationEvents where
  | all
  | faults
  deriving DecidableEq, Repr

/-- The settings fields of a room record (R27), as ROOM_SET carries them. -/
structure RoomSettings where
  inUse : Bool
  isolationRequired : Bool
  presence : PresenceRule
  maxOccupancy : Nat
  /-- M, maximum continuous stay, in minutes. -/
  maxStay : Nat
  /-- C, check interval, in minutes; 0 means none. -/
  checkInterval : Nat
  /-- G, overstay grace, in minutes. -/
  grace : Nat
  events : IsolationEvents
  deriving DecidableEq, Repr

/-- The three causes of a device reset that START carries (R181). -/
inductive ResetCause where
  | powerOn
  | lowVoltage
  | resetPin
  deriving DecidableEq, Repr

/-- One exchange at a door port (R163): the bytes the controller clocked in while DPk_SEL was low, and whether the
select had been high for less than 10 µs before it. -/
structure Exchange where
  sdi : List Byte
  tooSoon : Bool := false
  deriving DecidableEq, Repr

/-- A frame on the estate link after its start byte (R169): length, kind, tag, credit-return count, payload and the two
bytes of its CRC-16, in the order they come: the least significant byte first (R187). -/
structure WireFrame where
  length : Byte
  kind : Byte
  tag : Byte
  creditReturn : Byte
  payload : List Byte
  crcLow : Byte
  crcHigh : Byte
  deriving DecidableEq, Repr

/-- A command of the estate link as its frame spells it (R173, table of 13.3). -/
inductive LinkCommand where
  | time (mark : Word32)
  | suspend (number : PermitNo)
  | resume (number : PermitNo)
  | revoke (number : PermitNo)
  | remove (number : PermitNo)
  | roomSet (room : Byte) (settings : RoomSettings)
  | doorSet (door : Byte) (target : Option (Byte × Byte))
  | roomModeOpen (room : Byte)
  | roomModeClose (room : Byte)
  | roomModeCloseClear (room : Byte)
  | clearDoorAlarm (room : Byte)
  | evacuateStart
  | evacuateEnd
  | extend (cred : Credential)
  | release (cred : Credential)
  | accountCredential (cred : Credential)
  | accountRoom (room : Byte)
  | queryStatus
  | queryPermit (number : PermitNo)
  | queryRosterRoom (room ordinal : Byte)
  | describeRoom (room : Byte)
  | describeDoor (door : Byte)
  | batchOpen (id count : Word16)
  | permit (payload : List Byte)
  | batchClose (check : Word16)
  | batchAbort
  deriving DecidableEq, Repr

/-- The commands of the part, one constructor for each row of the table of operations and events.
A door port's request carries its exchange; a frame arriving on the estate link carries its bytes; an estate command
that is taken (R172) carries the tag and the operands of the waiting frame it is; an event of the part's own (a due
entry, a scan, a timer, a flash completion, a supply event) carries what the event brings. -/
inductive Instr where
  /-- PRESENT_IN (R60). -/
  | presentIn (port : PortId) (x : Exchange)
  /-- PRESENT_OUT (R96). -/
  | presentOut (port : PortId) (x : Exchange)
  /-- CHECK_IN (R132). -/
  | checkIn (port : PortId) (x : Exchange)
  /-- ARRIVAL_PASSED (R92). -/
  | arrivalPassed (port : PortId) (x : Exchange)
  /-- ARRIVAL_NOT_PASSED (R93). -/
  | arrivalNotPassed (port : PortId) (x : Exchange)
  /-- DOOR_ALARM_FORCED (R36). -/
  | doorAlarmForced (port : PortId) (x : Exchange)
  /-- DOOR_ALARM_HELD (R36). -/
  | doorAlarmHeld (port : PortId) (x : Exchange)
  /-- DOOR_ALARM_RESTORED (R36). -/
  | doorAlarmRestored (port : PortId) (x : Exchange)
  /-- READ (R166). -/
  | read (port : PortId) (x : Exchange)
  /-- PORT_RESET (R167). -/
  | portReset (port : PortId) (x : Exchange)
  /-- FRAME_RECEIVED (R169). -/
  | frameReceived (w : WireFrame)
  /-- FRAME_CRC_DISCARD (R169). -/
  | frameCrcDiscard (w : WireFrame)
  /-- INTER_BYTE_GAP_TIMEOUT (R169): the bytes after the start byte that had arrived before the gap. -/
  | interByteGapTimeout (bytes : List Byte)
  /-- FRAME_LENGTH_DISCARD (R169). -/
  | frameLengthDiscard (w : WireFrame)
  /-- FRAME_OVERRUN_DISCARD (R169). -/
  | frameOverrunDiscard (w : WireFrame)
  /-- HELLO (R170). -/
  | hello (w : WireFrame)
  /-- CREDIT (R171). -/
  | credit (w : WireFrame)
  /-- LINK_TIMEOUT (R170). -/
  | linkTimeout
  /-- HELLO_SEND_TICK (R170). -/
  | helloSendTick
  /-- CREDIT_IDLE_TIMEOUT (R171). -/
  | creditIdleTimeout
  /-- SEND_FRAME (R177). -/
  | sendFrame
  /-- EVENT_FRAME_SENT (R177). -/
  | eventFrameSent
  /-- TIME (R50). -/
  | time (tag : Byte) (mark : Word32)
  /-- SUSPEND (R8). -/
  | suspend (tag : Byte) (number : PermitNo)
  /-- RESUME (R9). -/
  | resume (tag : Byte) (number : PermitNo)
  /-- REVOKE (R10). -/
  | revoke (tag : Byte) (number : PermitNo)
  /-- REMOVE (R13). -/
  | remove (tag : Byte) (number : PermitNo)
  /-- ROOM_SET (R29). -/
  | roomSet (tag : Byte) (room : Byte) (settings : RoomSettings)
  /-- DOOR_SET (R39): a room and a port, or none to unmap. -/
  | doorSet (tag : Byte) (door : Byte) (target : Option (Byte × Byte))
  /-- ROOM_MODE_OPEN (R33). -/
  | roomModeOpen (tag : Byte) (room : Byte)
  /-- ROOM_MODE_CLOSE (R33). -/
  | roomModeClose (tag : Byte) (room : Byte)
  /-- ROOM_MODE_CLOSE_CLEAR (R35). -/
  | roomModeCloseClear (tag : Byte) (room : Byte)
  /-- CLEAR_DOOR_ALARM (R37). -/
  | clearDoorAlarm (tag : Byte) (room : Byte)
  /-- EVACUATE_START (R149). -/
  | evacuateStart (tag : Byte)
  /-- EVACUATE_END (R149). -/
  | evacuateEnd (tag : Byte)
  /-- EXTEND (R110). -/
  | extend (tag : Byte) (cred : Credential)
  /-- RELEASE (R99). -/
  | release (tag : Byte) (cred : Credential)
  /-- ACCOUNT_CREDENTIAL (R157). -/
  | accountCredential (tag : Byte) (cred : Credential)
  /-- ACCOUNT_ROOM_ESTATE (R157). -/
  | accountRoomEstate (tag : Byte) (room : Byte)
  /-- QUERY_STATUS (R57). -/
  | queryStatus (tag : Byte)
  /-- QUERY_PERMIT (R24). -/
  | queryPermit (tag : Byte) (number : PermitNo)
  /-- QUERY_ROSTER_ROOM (R117). -/
  | queryRosterRoom (tag : Byte) (room ordinal : Byte)
  /-- QUERY_DESCRIBE_ROOM (R42). -/
  | queryDescribeRoom (tag : Byte) (room : Byte)
  /-- QUERY_DESCRIBE_DOOR (R42). -/
  | queryDescribeDoor (tag : Byte) (door : Byte)
  /-- BATCH_OPEN (R174). -/
  | batchOpen (tag : Byte) (id count : Word16)
  /-- PERMIT (R174): the payload bytes of one permit definition. -/
  | permit (tag : Byte) (payload : List Byte)
  /-- BATCH_CLOSE (R175). -/
  | batchClose (tag : Byte) (check : Word16)
  /-- BATCH_ABORT (R176). -/
  | batchAbort (tag : Byte)
  /-- UNKNOWN_COMMAND (R173): a waiting frame that spells no command. -/
  | unknownCommand (tag : Byte) (kind : Byte) (payload : List Byte)
  /-- CLOCK_SECOND (R45). -/
  | clockSecond
  /-- CLOCK_LOST (R48). -/
  | clockLost
  /-- STAY_ENTRY (R106). -/
  | stayEntry (cred : Credential)
  /-- ARRIVE_ENTRY (R94). -/
  | arriveEntry (cred : Credential)
  /-- CHECK_ENTRY (R131). -/
  | checkEntry (cred : Credential)
  /-- PAIR_ENTRY (R87). -/
  | pairEntry (door : DoorId)
  /-- DAY_ENTRY (R53). -/
  | dayEntry
  /-- ISOLATION_SCAN (R137): the value v that the conversion of each channel gives, channel 0 first. -/
  | isolationScan (values : Vector (BitVec 10) 16)
  /-- EVAC_SAMPLE (R146): whether the line is low. -/
  | evacSample (low : Bool)
  /-- MUSTER_SELECTOR_WRITE (R160): the 7-bit address and the bytes written. -/
  | musterSelectorWrite (address : BitVec 7) (bytes : List Byte)
  /-- ACCOUNT_ROOM (R162): the address, and the room and ordinal of the selector written. -/
  | accountRoom (address : BitVec 7) (room ordinal : Byte)
  /-- ROOM_SUMMARY (R161): the address and the number of bytes read. -/
  | roomSummary (address : BitVec 7) (count : Nat)
  /-- UNACCOUNTED_ENTRY (R161): the address and the number of bytes read. -/
  | unaccountedEntry (address : BitVec 7) (count : Nat)
  /-- PRESENT_ENTRY (R161): the address and the number of bytes read. -/
  | presentEntry (address : BitVec 7) (count : Nat)
  /-- FLASH_OPERATION_COMPLETE (R183). -/
  | flashOperationComplete
  /-- LOW_VOLTAGE_WARNING (R184). -/
  | lowVoltageWarning
  /-- SUPPLY_RECOVERED (R184). -/
  | supplyRecovered
  /-- DEVICE_RESET (R185): the cause, and whether the backup domain has lost its contents (R55). -/
  | deviceReset (cause : ResetCause) (backupLost : Bool)
  /-- STARTUP_RUNNING (R186). -/
  | startupRunning
  deriving DecidableEq, Repr

end Sys2Proof
end

