-- ==== Sys2Proof/Decode.lean ====
section
/-! DEFINITION. Reading bytes: the byte order and the two check codes (R164, R169, R187), the judging of a door port's
request frame (R164), the commands a link frame spells (13.3, R173, R187), a permit definition's 32 bytes (13.3), and
`decodeTableWord`, which reads a command from a table row's bits: no row of this table gives any. -/

namespace Sys2Proof

/-! ## Numbers in bytes, most significant first (R187) -/

/-- The number a run of bytes carries, most significant byte first (R187). -/
def beVal (bytes : List Byte) : Nat := bytes.foldl (fun acc b => acc * 256 + b.toNat) 0

/-- `n` bytes carrying `v`, most significant byte first (R187). -/
def be : Nat → Nat → List Byte
  | 0, _ => []
  | n + 1, v => BitVec.ofNat 8 (v / 256 ^ n) :: be n v

/-- The number in the `n` bytes from place `i` on. -/
def fieldAt (bytes : List Byte) (i n : Nat) : Nat := beVal ((bytes.drop i).take n)

/-- The byte at place `i`, 0 past the end. -/
def byteAt (bytes : List Byte) (i : Nat) : Byte := bytes.getD i 0

/-! ## Check codes -/

/-- One bit step of the CRC-8 of the door ports: polynomial x^8 + x^2 + x + 1, most significant bit first (R164). -/
def crc8Bit (c : Byte) : Byte := if c.msb then (c <<< 1) ^^^ 0x07#8 else c <<< 1

/-- One byte of the CRC-8 of the door ports (R164). -/
def crc8Byte (c b : Byte) : Byte :=
  crc8Bit (crc8Bit (crc8Bit (crc8Bit (crc8Bit (crc8Bit (crc8Bit (crc8Bit (c ^^^ b))))))))

/-- The CRC-8 of the door ports: seed 0x00, no final inversion (R164). -/
def crc8 (bytes : List Byte) : Byte := bytes.foldl crc8Byte 0#8

/-- One bit step of the CRC-16 of the estate link: polynomial x^16 + x^15 + x^2 + 1, least significant bit first, so
its reflected constant 0xA001 (R169). -/
def crc16Bit (c : Word16) : Word16 := if c.getLsbD 0 then (c >>> 1) ^^^ 0xA001#16 else c >>> 1

/-- One byte of the CRC-16 of the estate link (R169). -/
def crc16Byte (c : Word16) (b : Byte) : Word16 :=
  crc16Bit (crc16Bit (crc16Bit (crc16Bit (crc16Bit (crc16Bit (crc16Bit (crc16Bit (c ^^^ b.setWidth 16))))))))

/-- The CRC-16 of R169 run over bytes from a given value: the seed is 0xFFFF for a frame and 0x2F5E for the running
batch check (R174). -/
def crc16 (seed : Word16) (bytes : List Byte) : Word16 := bytes.foldl crc16Byte seed

/-- The CRC-16 of a link frame's bytes from its length to its payload: seed 0xFFFF (R169). -/
def frameCheck (body : List Byte) : Word16 := crc16 0xFFFF#16 body

/-- The two bytes of a link frame's CRC-16 as they are sent: the least significant first (R187). -/
def crcBytes (c : Word16) : List Byte := [c.setWidth 8, (c >>> 8).setWidth 8]

/-- The CRC-16 a link frame must carry: over length, kind, tag, credit-return and payload (R169). -/
def WireFrame.check (w : WireFrame) : Word16 :=
  frameCheck (w.length :: w.kind :: w.tag :: w.creditReturn :: w.payload)

/-- The CRC-16 a link frame carries matches its contents, its least significant byte being the first (R169, R187). -/
def WireFrame.crcMatches (w : WireFrame) : Bool := decide ([w.crcLow, w.crcHigh] = crcBytes w.check)

/-- A whole link frame as its bytes go on the line (R169, 13.3): the start byte 0x7E, length, kind, tag, credit-return
count, payload, CRC-16. -/
def linkFrameBytes (kind : Nat) (tag : Byte) (creditReturn : Nat) (payload : List Byte) : List Byte :=
  let body := BitVec.ofNat 8 payload.length :: BitVec.ofNat 8 kind :: tag :: BitVec.ofNat 8 creditReturn :: payload
  0x7E#8 :: (body ++ crcBytes (frameCheck body))

/-- The frame is whole: as many payload bytes as its length byte says (R169). -/
def WireFrame.whole (w : WireFrame) : Bool := w.payload.length == w.length.toNat

/-! ## Door port request frames (R164, 13.2) -/

/-- A status poll: fewer bytes than a request frame header, or an exchange begun too soon (R163). -/
def Exchange.isPoll (x : Exchange) : Bool := x.tooSoon || decide (x.sdi.length < 3)

/-- Judges a request frame of the kind code `code` whose payload has `len` bytes (R164): its door and payload, or `none`
for BAD_FRAME: another kind, another length, a select that rose before the check byte, or a check that does not match.
Bytes after the check byte are discarded. -/
def judgeRequest (code len : Nat) (sdi : List Byte) : Option (Byte × List Byte) :=
  match sdi with
  | kind :: door :: length :: rest =>
    if kind.toNat = code ∧ length.toNat = len then
      match rest.drop len with
      | check :: _ =>
        if check = crc8 (kind :: door :: length :: rest.take len) then some (door, rest.take len) else none
      | [] => none
    else none
  | _ => none

/-- The credential of a request's payload: its first five bytes (13.2). -/
def payloadCredential (payload : List Byte) : Credential := BitVec.ofNat 40 (fieldAt payload 0 5)

/-- A whole request frame with a right check, as a controller clocks it in (R164). -/
def requestFrame (code : Nat) (door : Byte) (payload : List Byte) : List Byte :=
  let head := BitVec.ofNat 8 code :: door :: BitVec.ofNat 8 payload.length :: payload
  head ++ [crc8 head]

/-! ## Estate link commands (13.3) -/

/-- Every byte is 0, as a field marked absent or unused must be (R187). -/
def allZero (bytes : List Byte) : Bool := bytes.all (fun b => b == 0)

/-- A four-byte number that is the whole payload. -/
def word32Payload (payload : List Byte) : Option Word32 :=
  if payload.length = 4 then some (BitVec.ofNat 32 (beVal payload)) else none

/-- A five-byte credential that is the whole payload. -/
def credentialPayload (payload : List Byte) : Option Credential :=
  if payload.length = 5 then some (BitVec.ofNat 40 (beVal payload)) else none

/-- The settings a ROOM_SET payload's six bytes after the room carry; a set unused flag bit spells nothing (13.3, R187). -/
def decodeSettings (flags maxOcc mHigh mLow check grace : Byte) : Option RoomSettings :=
  if flags.toNat < 16 then
    some { inUse := flags.getLsbD 0
           isolationRequired := flags.getLsbD 1
           presence := if flags.getLsbD 2 then .paired else .any
           maxOccupancy := maxOcc.toNat
           maxStay := beVal [mHigh, mLow]
           checkInterval := check.toNat
           grace := grace.toNat
           events := if flags.getLsbD 3 then .faults else .all }
  else none

/-- ROOM_SET: seven bytes (13.3). -/
def decodeRoomSet : List Byte → Option LinkCommand
  | [room, flags, maxOcc, mHigh, mLow, check, grace] =>
    (decodeSettings flags maxOcc mHigh mLow check grace).map (.roomSet room)
  | _ => none

/-- DOOR_SET: door, then room and port, or 0xFF twice to unmap (13.3). -/
def decodeDoorSet : List Byte → Option LinkCommand
  | [door, room, port] =>
    if room = 0xFF#8 ∧ port = 0xFF#8 then some (.doorSet door none) else some (.doorSet door (some (room, port)))
  | _ => none

/-- ROOM_MODE: room and variant (13.3). -/
def decodeRoomMode : List Byte → Option LinkCommand
  | [room, variant] =>
    match variant.toNat with
    | 1 => some (.roomModeOpen room)
    | 2 => some (.roomModeClose room)
    | 3 => some (.roomModeCloseClear room)
    | 4 => some (.clearDoorAlarm room)
    | _ => none
  | _ => none

/-- EVACUATE: START or END (13.3). -/
def decodeEvacuate : List Byte → Option LinkCommand
  | [variant] =>
    match variant.toNat with
    | 1 => some .evacuateStart
    | 2 => some .evacuateEnd
    | _ => none
  | _ => none

/-- ACCOUNT: 1 and a credential, or 2, a room and four bytes of 0 (13.3). -/
def decodeAccount : List Byte → Option LinkCommand
  | choice :: rest =>
    if rest.length = 5 then
      match choice.toNat with
      | 1 => some (.accountCredential (BitVec.ofNat 40 (beVal rest)))
      | 2 => if allZero (rest.drop 1) then some (.accountRoom (byteAt rest 0)) else none
      | _ => none
    else none
  | _ => none

/-- QUERY: a subject and five bytes (13.3). -/
def decodeQuery : List Byte → Option LinkCommand
  | subject :: rest =>
    if rest.length = 5 then
      match subject.toNat with
      | 1 => if allZero rest then some .queryStatus else none
      | 2 => if allZero (rest.drop 4) then some (.queryPermit (BitVec.ofNat 32 (fieldAt rest 0 4))) else none
      | 3 => if allZero (rest.drop 2) then some (.queryRosterRoom (byteAt rest 0) (byteAt rest 1)) else none
      | 4 =>
        if allZero (rest.drop 2) then
          match (byteAt rest 0).toNat with
          | 0 => some (.describeRoom (byteAt rest 1))
          | 1 => some (.describeDoor (byteAt rest 1))
          | _ => none
        else none
      | _ => none
    else none
  | _ => none

/-- BATCH_OPEN: batch id and declared count (13.3). -/
def decodeBatchOpen : List Byte → Option LinkCommand
  | [idHigh, idLow, countHigh, countLow] =>
    some (.batchOpen (BitVec.ofNat 16 (beVal [idHigh, idLow])) (BitVec.ofNat 16 (beVal [countHigh, countLow])))
  | _ => none

/-- BATCH_CLOSE: the gateway's batch check, most significant byte first (13.3, R187). -/
def decodeBatchClose : List Byte → Option LinkCommand
  | [checkHigh, checkLow] => some (.batchClose (BitVec.ofNat 16 (beVal [checkHigh, checkLow])))
  | _ => none

/-- The command a link frame of this kind and payload spells (table of 13.3). None: a kind the part does not take, a
length that is not the kind's, a code with no name or a set unused bit; such a frame is refused RANGE (R173, R187), a PERMIT
or BATCH_CLOSE frame of a wrong length too (DESIGN CHOICE, log entry 61). -/
def decodeCommand (kind : Byte) (payload : List Byte) : Option LinkCommand :=
  match kind.toNat with
  | 16 => (word32Payload payload).map .time
  | 17 => (word32Payload payload).map .suspend
  | 18 => (word32Payload payload).map .resume
  | 19 => (word32Payload payload).map .revoke
  | 20 => (word32Payload payload).map .remove
  | 21 => decodeRoomSet payload
  | 22 => decodeDoorSet payload
  | 23 => decodeRoomMode payload
  | 24 => decodeEvacuate payload
  | 25 => (credentialPayload payload).map .extend
  | 26 => (credentialPayload payload).map .release
  | 27 => decodeAccount payload
  | 28 => decodeQuery payload
  | 29 => decodeBatchOpen payload
  | 30 => if payload.length = 32 then some (.permit payload) else none
  | 31 => decodeBatchClose payload
  | 32 => if payload.length = 0 then some .batchAbort else none
  | _ => none

/-- The kind codes of the store commands SUSPEND to DOOR_SET (R172, 13.3). -/
def isStoreKind (kind : Byte) : Bool := decide (17 ≤ kind.toNat) && decide (kind.toNat ≤ 22)

/-- HELLO and CREDIT frames use no receive place and cost no credit (R169). -/
def isLinkKind (kind : Byte) : Bool := decide (kind.toNat = 1) || decide (kind.toNat = 2)

/-! ## Permit definitions (13.3, R3, R187) -/

/-- An optional field under its presence bit: a field marked absent must hold 0 (R187). -/
def optionalField {α : Type} (present holdsZero : Bool) (value : α) : Option (Option α) :=
  if present then some (some value) else if holdsZero then some none else none

/-- The permit kind a code names (R187). -/
def decodePermitKind (code : Byte) : Option PermitKind :=
  match code.toNat with
  | 1 => some .contractor
  | 2 => some .escort
  | _ => none

/-- The escort requirement a code names (R187). -/
def decodeEscortReq (code : Byte) : Option EscortReq :=
  match code.toNat with
  | 1 => some .noEscort
  | 2 => some .escort
  | _ => none

/-- The definition the 32 bytes of a PERMIT payload carry; none where a code has no name, an unused bit is set or a
field marked absent is not 0 (13.3, R187). -/
def decodePermit (b : List Byte) : Option PermitDef :=
  (decodePermitKind (byteAt b 9)).bind fun kind =>
  (decodeEscortReq (byteAt b 10)).bind fun requirement =>
  (if (byteAt b 21).toNat < 16 ∧ (byteAt b 22).toNat < 128 then some () else none).bind fun _ =>
  (optionalField ((byteAt b 21).getLsbD 0) (byteAt b 22 == 0) ((byteAt b 22).setWidth 7)).bind fun weekdays =>
  (optionalField ((byteAt b 21).getLsbD 1) (allZero ((b.drop 23).take 6))
    (fieldAt b 23 3, fieldAt b 26 3)).bind fun hours =>
  (optionalField ((byteAt b 21).getLsbD 2) (allZero ((b.drop 29).take 2)) (fieldAt b 29 2)).bind fun budget =>
  (optionalField ((byteAt b 21).getLsbD 3) (byteAt b 31 == 0) (byteAt b 31).toNat).bind fun coverLimit =>
  some { number := BitVec.ofNat 32 (fieldAt b 0 4)
         cred := BitVec.ofNat 40 (fieldAt b 4 5)
         kind := kind
         requirement := requirement
         rooms := BitVec.ofNat 16 (fieldAt b 11 2)
         windowStart := fieldAt b 13 4
         windowEnd := fieldAt b 17 4
         weekdays := weekdays
         hours := hours
         budget := budget
         coverLimit := coverLimit }

/-- A permit definition is well-formed: the conditions of R3. -/
def PermitDef.wellFormed (d : PermitDef) : Bool :=
  decide (1 ≤ d.number.toNat) && decide (1 ≤ d.cred.toNat) && decide (d.rooms ≠ 0) &&
  decide (d.windowStart < d.windowEnd) && decide (d.windowEnd - d.windowStart ≤ 31622400) &&
  decide (d.weekdays ≠ some 0) &&
  (match d.hours with
   | none => true
   | some (f, t) => decide (f % 60 = 0) && decide (t % 60 = 0) && decide (f < t) && decide (t ≤ 86400)) &&
  (match d.budget with
   | none => true
   | some n => decide (1 ≤ n) && decide (n ≤ 1440)) &&
  (match d.kind with
   | .contractor => d.coverLimit.isNone
   | .escort => decide (d.requirement = .noEscort) &&
     (match d.coverLimit with
      | none => false
      | some n => decide (1 ≤ n) && decide (n ≤ 4)))

/-! ## The table's bits -/

/-- No row of this table gives its command any bits (its rows are operations and events, not encodings), so no word
spells a command. -/
def decodeTableWord (_nbits _w : Nat) : Option Instr := none

end Sys2Proof
end

