-- ==== Sys2Proof/Machine/State.lean ====
section
/-! DEFINITION. The part's state as plain data: every table, queue, register, input level and mark the manual gives the
part, the queue of waiting commands, and the state after a device reset. -/

namespace Sys2Proof.Machine

/-! ## Names of the manual -/

/-- The part is STARTING after a device reset, RUNNING after start-up, LOW_POWER under a low-voltage warning (R184, R185). -/
inductive PartState where
  | starting
  | running
  | lowPower
  deriving DecidableEq, Repr

/-- The supply monitor's states (R184). RESET is left at once by the device reset that follows it. -/
inductive SupplyState where
  | normal
  | warning
  | reset
  deriving DecidableEq, Repr

/-- How far the clock value may be trusted (R44). -/
inductive ClockStatus where
  | unset
  | set
  | lost
  deriving DecidableEq, Repr

/-- A permit's state (R2, R6). -/
inductive PermitState where
  | active
  | suspended
  | revoked
  deriving DecidableEq, Repr

/-- A room's mode (R27). -/
inductive Mode where
  | inService
  | closed
  | evacuating
  | muster
  deriving DecidableEq, Repr

/-- A room's isolation state (R27, R141). -/
inductive IsolationState where
  | notRequired
  | unknown
  | confirmed
  | notConfirmed
  | fault
  deriving DecidableEq, Repr

/-- A channel's held class (R139). -/
inductive HeldClass where
  | unknown
  | short
  | active
  | inactive
  | openLoop
  deriving DecidableEq, Repr

/-- The EVAC line's levels (R146). -/
inductive EvacLevel where
  | active
  | inactive
  deriving DecidableEq, Repr

/-- An occupant record's state (R89). -/
inductive OccState where
  | arriving
  | inside
  | unaccounted
  deriving DecidableEq, Repr

/-- An occupant record's stage (R104). -/
inductive Stage where
  | within
  | due
  | overstay
  | alarm
  deriving DecidableEq, Repr

/-- The reasons a presentation can be refused (table of R60). -/
inductive Reason where
  | unknownDoor
  | evac
  | muster
  | closed
  | duplicate
  | unknownCredential
  | passback
  | notPermitted
  | suspended
  | revoked
  | clock
  | outsideWindow
  | budget
  | shortStay
  | journalFull
  | doorAlarm
  | isolation
  | roomFull
  | rosterFull
  | pairMismatch
  | pairCancelled
  | pairTimeout
  deriving DecidableEq, Repr

/-- The reasons of a curtailment (R108). -/
inductive CurtailReason where
  | revoked
  | revised
  | escortLoss
  | partnerLoss
  | closure
  deriving DecidableEq, Repr

/-- A presentation's needs (R76). -/
structure Need where
  escort : Bool
  partner : Bool
  deriving DecidableEq, Repr

/-- The sources of evacuation events, accountings and door alarm clearings (R187). -/
inductive Source where
  | line
  | estate
  | restored
  | panel
  | door
  deriving DecidableEq, Repr

/-- The details of EXIT and ACCOUNTED records (R187). -/
inductive LeaveDetail where
  | out
  | reentry
  | evac
  | presentation
  | estate
  | roomClear
  | inside
  deriving DecidableEq, Repr

/-- The details of ROOM_MODE records (R187). -/
inductive ModeDetail where
  | opened
  | closed
  | closeClear
  | musterCleared
  deriving DecidableEq, Repr

/-- The details of PERMITS_APPLIED records (R187). -/
inductive AppliedDetail where
  | suspend
  | resume
  | revoke
  | remove
  | batch
  | roomSet
  deriving DecidableEq, Repr

/-- The errors of a BATCH_DONE, in the order of 13.3. -/
inductive BatchError where
  | range
  | linkCrc
  | short
  | overrun
  | sum
  | full
  | credentialLimit
  | revokedNumber
  | credentialInUse
  | kindInUse
  deriving DecidableEq, Repr

/-- The results of a REPLY (R187). -/
inductive ReplyResult where
  | ok
  | busy
  | range
  | unknownPermit
  | unknownRoom
  | unknownCredential
  | state
  | clock
  | noGain
  | outsideWindow
  deriving DecidableEq, Repr

/-! ## The journal (R179) -/

/-- The kinds of journal record, in the order of the table of 11.2. -/
inductive JournalKind where
  | start
  | grant
  | refuse
  | exit
  | exitUnknown
  | grantUnused
  | stayOver
  | stayAlarm
  | loneAlarm
  | loneRecovered
  | curtailed
  | extended
  | escortLoss
  | partnerLoss
  | released
  | accounted
  | doorForced
  | doorHeld
  | doorRestored
  | isolationChange
  | isolationLost
  | evacStart
  | evacEnd
  | roomMode
  | clock
  | permitsApplied
  | purged
  | linkUp
  | linkDown
  | rosterLost
  | snapshotSkipped
  deriving DecidableEq, Repr

/-- The detail of a journal record: the items its producing rule lists (R179, R189). -/
inductive Detail where
  | none
  /-- START: the reset cause (R181). -/
  | cause (c : ResetCause)
  /-- GRANT: the allowance in minutes (R59). -/
  | minutes (m : Nat)
  /-- REFUSE: the reason (R59), and the stored need where the record ends a pairing slot (R81). -/
  | refusal (reason : Reason) (need : Option Need)
  /-- EXIT: its detail and the minutes charged (R97). -/
  | leave (d : LeaveDetail) (k : Nat)
  /-- ACCOUNTED: its detail, the source where one is given, and the minutes charged (R157). -/
  | account (d : LeaveDetail) (source : Option Source) (k : Nat)
  /-- RELEASED: the minutes charged (R99). -/
  | charged (k : Nat)
  /-- STAY_OVER, STAY_ALARM: the allowance end (R106). LONE_ALARM: the missed due time (R131). -/
  | instant (t : EstateTime)
  /-- LONE_RECOVERED: COMPANY or CHECK_IN (R132, R133). -/
  | recovered (company : Bool)
  /-- CURTAILED: the reason, and the allowance end before and after (R108). -/
  | curtail (reason : CurtailReason) (before after : EstateTime)
  /-- EXTENDED: the allowance end before and after (R112). -/
  | extend (before after : EstateTime)
  /-- ESCORT_LOSS: the escort lost, and the new escort where REASSIGNED, none where UNCOVERED (R122, R123). -/
  | escortLoss (lost : Option Credential) (reassigned : Option Credential)
  /-- PARTNER_LOSS: the credential of the removed record (R127). -/
  | partner (removed : Credential)
  /-- DOOR_FORCED: the door alarm before (R36). -/
  | alarmBefore (raised : Bool)
  /-- DOOR_RESTORED: the source (R36, R37). -/
  | source (src : Source)
  /-- ISOLATION_CHANGE: the held class before and after (R142). -/
  | heldChange (before after : HeldClass)
  /-- ISOLATION_LOST: the new isolation state, the present count, and whether the detail is START (R143, R145). -/
  | isolationLost (st : IsolationState) (present : Nat) (atStart : Bool)
  /-- EVAC_START: the source and the number of roster records (R150). -/
  | evacStart (src : Source) (records : Nat)
  /-- EVAC_END: the source, and the rooms about to enter MUSTER and their records (R156). -/
  | evacEnd (src : Source) (rooms records : Nat)
  /-- ROOM_MODE by a command: the variant, the mode before and after, and the prior mode after where it is given (R32). -/
  | roomMode (variant : ModeDetail) (before after : Mode) (prior : Option Mode)
  /-- ROOM_MODE (MUSTER_CLEARED): the mode before and after (R156). -/
  | musterCleared (before after : Mode)
  /-- CLOCK: the new status (R47). -/
  | clockStatus (st : ClockStatus)
  /-- CLOCK (SET): the status, and the clock value before and after (R47). -/
  | clockSet (before after : EstateTime)
  /-- PERMITS_APPLIED: the command or BATCH (R7, R16, R30). -/
  | applied (d : AppliedDetail)
  /-- PERMITS_APPLIED (DOOR_SET): the new room and port, or unmapped (R40). -/
  | doorSet (target : Option (RoomId × PortId))
  /-- LINK_UP with the detail RESTART (R170). -/
  | restart
  deriving DecidableEq, Repr

/-- What a producing rule writes: a kind, the fields it names and the detail (R179). A door is kept as the byte a request
named (log entry 14). -/
structure JournalEntry where
  kind : JournalKind
  room : Option RoomId := none
  door : Option Byte := none
  cred : Option Credential := none
  permit : Option PermitNo := none
  detail : Detail := .none
  deriving DecidableEq, Repr

/-- A stored journal record: the clock value at the instant it was written, its gap flag and what was written (R179). -/
structure JournalRecord where
  time : EstateTime
  gap : Bool
  entry : JournalEntry
  deriving DecidableEq, Repr

/-! ## Permits, rooms, doors, pairings -/

/-- A record of the permit table (R2). -/
structure Permit where
  defn : PermitDef
  state : PermitState
  /-- Minutes charged in the current budget day. -/
  used : Nat
  storePending : Bool
  deriving DecidableEq, Repr

/-- A record of the room table (R27). Its isolation state is read from its channel (R141). -/
structure Room where
  settings : RoomSettings
  mode : Mode
  prior : Mode
  doorAlarm : Bool
  deriving DecidableEq, Repr

/-- What a mapped door leads to (R38). -/
structure DoorMapping where
  room : RoomId
  port : PortId
  deriving DecidableEq, Repr

/-- A filled pending-pairing slot (R81). -/
structure Pairing where
  cred : Credential
  need : Need
  time : EstateTime
  deriving DecidableEq, Repr

/-! ## The roster and the deadline queue -/

/-- An occupant record (R89), with the arrival open mark of R155. Cover links name records by credential: a credential
has at most one record (R90). Its deadline slots are its entries in the deadline queue (R113). -/
structure Occupant where
  cred : Credential
  permit : PermitNo
  room : RoomId
  entryDoor : DoorId
  state : OccState
  entryTime : EstateTime
  chargeStart : EstateTime
  allowanceEnd : EstateTime
  stage : Stage
  loneAlarm : Bool
  uncovered : Bool
  coveredBy : Option Credential
  covers : List Credential
  evacTime : Option EstateTime
  arrivalOpen : Bool
  deriving DecidableEq, Repr

/-- The kind and the owner of a deadline queue entry (R113). -/
inductive Owner where
  | stay (cred : Credential)
  | arrive (cred : Credential)
  | check (cred : Credential)
  | pair (door : DoorId)
  | day
  deriving DecidableEq, Repr

/-- An entry of the deadline queue (R113). -/
structure Deadline where
  due : EstateTime
  owner : Owner
  deriving DecidableEq, Repr

/-! ## The clock, the inputs, the evacuation logic -/

/-- The four items of the backup domain (R44). -/
structure Clock where
  value : EstateTime
  elapsed : Nat
  status : ClockStatus
  budgetDay : Option Nat
  deriving DecidableEq, Repr

/-- An isolation channel (R139): a held class, absent while it is disabled (R136); the candidate class and its count;
the most recent conversion since it was last enabled, which disabling does not discard (R147); and whether the first held-class change after start-up is still
to come (R145). -/
structure Channel where
  held : Option HeldClass
  candidate : Option (HeldClass × Nat)
  lastValue : Option (BitVec 10)
  fromStart : Bool
  deriving DecidableEq, Repr

/-- The EVAC line's held and candidate level (R146) and the evacuation logic's items (R148). `samples` counts the samples
since the part became RUNNING, for the carry-over (R159). -/
structure Evac where
  held : EvacLevel
  candidate : Option EvacLevel
  samples : Nat
  hold : Bool
  carryOver : Bool
  active : Bool
  deriving DecidableEq, Repr

/-! ## Door ports -/

/-- The held outcome of a port's last request exchange (R163). -/
inductive PortOutcome where
  | taken
  | notTakenFull
  | badFrame
  | starting
  | lowPower
  deriving DecidableEq, Repr

/-- The decision of an IN presentation (R59). -/
inductive Decision where
  | grant (minutes : Nat) (short : Bool)
  | pending (need : Need)
  | refuse (reason : Reason)
  deriving DecidableEq, Repr

/-- The results of EXIT_RESULT items (13.2). -/
inductive ExitResult where
  | exited
  | exitUnknown
  | unknownDoor
  deriving DecidableEq, Repr

/-- The results of CHECK_RESULT items (13.2). -/
inductive CheckResult where
  | accepted
  | notExpected
  | unknownDoor
  deriving DecidableEq, Repr

/-- The notices, in the order of the table of R165. -/
inductive NoticeKind where
  | stayDue
  | stayOver
  | stayAlarm
  | curtailed
  | loneAlarm
  | loneRecovered
  | isolationLost
  | isolationRestored
  | evacRelease
  | evacEnd
  | musterCleared
  deriving DecidableEq, Repr

/-- The detail byte of a NOTICE item (13.2). -/
inductive NoticeDetail where
  | none
  | reason (r : CurtailReason)
  | isolation (st : IsolationState)
  | mode (m : Mode)
  deriving DecidableEq, Repr

/-- What a notice to the doors of a room carries beside the door (R41, 13.2). -/
structure Notice where
  kind : NoticeKind
  cred : Option Credential := none
  time : EstateTime := 0
  detail : NoticeDetail := .none
  deriving DecidableEq, Repr

/-- An item of a port's outbound queue (R165). -/
inductive Item where
  | decision (door : Byte) (cred : Credential) (d : Decision)
  | exitResult (door : Byte) (cred : Credential) (r : ExitResult) (minutes : Nat)
  | checkResult (door : Byte) (cred : Credential) (r : CheckResult) (due : EstateTime)
  | notice (door : DoorId) (room : RoomId) (n : Notice)
  deriving DecidableEq, Repr

/-- A door port (R163, R165). The last two fields are the model's own record of what the port shifted out in its last
exchange: the status byte, and the bytes that followed a READ frame's check byte. -/
structure Port where
  queue : List Item
  outcome : PortOutcome
  lastStatus : Byte
  lastShift : List Byte
  deriving DecidableEq, Repr

/-! ## The estate link and the batch machine -/

/-- A frame waiting in a receive place (R169, R172). -/
structure LinkFrame where
  kind : Byte
  tag : Byte
  payload : List Byte
  deriving DecidableEq, Repr

/-- A REPLY or BATCH_DONE waiting to be sent (R173, R175). -/
inductive Outgoing where
  | reply (tag : Byte) (result : ReplyResult) (fields : List Byte)
  | batchDone (tag : Byte) (id : Word16) (error : Option BatchError) (ordinal : Nat)
  deriving DecidableEq, Repr

/-- The estate link (R169 to R178). `lastSent` is the model's own record of the last frame the part began to send: all its
bytes, from the start byte to the CRC-16 (13.3); empty before the first. -/
structure Link where
  up : Bool
  /-- Gateway credits held (R171). -/
  credits : Nat
  /-- The gateway's declared receive credits (R170). -/
  declared : Nat
  /-- The gateway's declared maximum payload (R170). -/
  gatewayMax : Nat
  /-- The effective maximum payload (R170). -/
  effectiveMax : Nat
  /-- Frames waiting in receive places, in the order they arrived. -/
  places : List LinkFrame
  /-- Credits owed to the gateway (R171). -/
  owed : Nat
  /-- Waiting REPLY and BATCH_DONE frames, in the order they were made. -/
  replies : List Outgoing
  discardsCrc : Nat
  discardsLength : Nat
  discardsOverrun : Nat
  /-- An EVENT frame carrying the head journal record is being sent (R177). -/
  eventInFlight : Bool
  lastSent : List Byte
  deriving DecidableEq, Repr

/-- A definition as the store holds it (R182). -/
inductive Defn where
  | permit (d : PermitDef) (st : PermitState)
  | room (r : RoomId) (settings : RoomSettings)
  | door (d : DoorId) (mapping : Option DoorMapping)
  deriving DecidableEq, Repr

/-- The key of a stored definition (R182). -/
inductive Key where
  | permit (n : PermitNo)
  | room (r : RoomId)
  | door (d : DoorId)
  deriving DecidableEq, Repr

/-- What a write queue entry asks for: a version write or a retirement (R182). -/
inductive WriteJob where
  | version (d : Defn)
  | retire (k : Key)
  deriving DecidableEq, Repr

/-- An entry of the write queue (R182), and whether an applied batch queued it (R175). -/
structure WriteEntry where
  job : WriteJob
  fromBatch : Bool
  deriving DecidableEq, Repr

/-- The batch machine's states (R174). -/
inductive BatchPhase where
  | idle
  | opened
  | applying
  deriving DecidableEq, Repr

/-- The batch machine (R174, R175). A staged record that does not decode is staged as `none`, its error kept. -/
structure Batch where
  phase : BatchPhase
  id : Word16
  declared : Nat
  received : Nat
  staging : List (Option PermitDef)
  check : Word16
  kept : Option (BatchError × Nat)
  overrun : Bool
  /-- The tag of the close, which BATCH_DONE carries. -/
  closeTag : Byte
  /-- Records applied. -/
  applied : Nat
  /-- Writes of the applied batch still to complete. -/
  remaining : Nat
  /-- Writes of the applied batch still to be queued, in staging order. -/
  unqueued : List WriteEntry
  deriving DecidableEq, Repr

/-! ## The permit store -/

/-- A slot that is not ERASED (R182): WRITTEN, with its definition, its sequence number and whether its check matches
its contents, or RETIRED. -/
inductive Slot where
  | written (d : Defn) (seq : Nat) (sound : Bool)
  | retired
  deriving DecidableEq, Repr

/-- What the snapshot holds (R184). -/
structure Snapshot where
  clock : EstateTime
  /-- Every roster record, in order of admission, with its kind. -/
  records : List (Occupant × PermitKind)
  /-- Each room's mode, prior mode and door alarm. -/
  rooms : Vector (Mode × Mode × Bool) 16
  hold : Bool
  /-- The used-today of every permit whose value is not 0. -/
  used : List (PermitNo × Nat)
  deriving DecidableEq, Repr

/-- An operation of the flash engine (R183). -/
inductive FlashOp where
  /-- The slot program of the head entry's version write. -/
  | program (addr : Nat) (d : Defn) (seq : Nat)
  /-- The retirement of the head entry. -/
  | retire (addr : Nat)
  /-- A retirement of start-up's (R185). -/
  | retireStale (addr : Nat)
  /-- A compaction copy. -/
  | copy (src dst : Nat) (d : Defn) (seq : Nat)
  /-- A page's erase-started mark. -/
  | mark (page : Nat)
  | erase (page : Nat)
  | snapProgram (sn : Snapshot)
  | snapValid
  | snapConsumed
  | snapErase (page : Fin 4)
  deriving DecidableEq, Repr

/-- Compaction of one page in progress (R182): the slots still to copy, and whether the page is ready to be erased,
which is once its erase-started mark is programmed. -/
structure Compaction where
  page : Nat
  todo : List Nat
  marked : Bool
  deriving DecidableEq, Repr

/-- The main area of the store, its write queue and the engine (R182, R183). -/
structure Store where
  /-- The slots that are not ERASED, by slot number 32 · page + slot, strictly rising; an unlisted slot is ERASED. -/
  slots : List (Nat × Slot)
  /-- The pages whose erase-started mark is cleared. -/
  dirty : List Nat
  /-- The sequence counter. -/
  seq : Nat
  queue : List WriteEntry
  /-- Once the head version write has been programmed: the slot of the previous version, still to be retired. -/
  headPrevious : Option Nat
  compaction : Option Compaction
  /-- The slots start-up still has to retire before the part becomes RUNNING (R185). -/
  toRetire : List Nat
  /-- The operation in flight. -/
  engine : Option FlashOp
  deriving DecidableEq, Repr

/-- The snapshot area (R184, R186): four pages, the snapshot with its valid and consumed marks, the snapshot writer's
operations still to make, and whether the area's erase is requested. `begun` says that the warning in force is to have a
snapshot, the area having been fully erased at it; `toConsume` that start-up still has to program the consumed mark of the
snapshot it has restored. -/
structure SnapArea where
  erased : Vector Bool 4
  content : Option Snapshot
  valid : Bool
  consumed : Bool
  writer : List FlashOp
  begun : Bool
  toConsume : Bool
  eraseRequested : Bool
  deriving DecidableEq, Repr

/-! ## The muster port -/

/-- The muster port (R160): the levels of MSEL0 and MSEL1 as a number and the address chosen by them at start-up, the
selector, the kept answer, and the model's own record of the bytes last read. -/
structure Muster where
  straps : BitVec 2
  address : BitVec 7
  kind : Byte
  room : Byte
  ordinal : Byte
  kept : Option (List Byte)
  lastRead : List Byte
  deriving DecidableEq, Repr

/-! ## The state -/

/-- The part's state. `pending` is the queue of the commands that are waiting, first in, first out. -/
structure State where
  pending : List Instr
  part : PartState
  supply : SupplyState
  /-- Whether the warning in force was taken while the part was RUNNING (R184). -/
  warnedRunning : Bool
  /-- Start-up has restored the roster, or found it lost, since the last device reset (R186). -/
  restored : Bool
  clock : Clock
  /-- A backup loss was found since the part was last RUNNING, so restored times are rebased (R55). -/
  backupLost : Bool
  permits : List Permit
  rooms : Vector Room 16
  doors : Vector (Option DoorMapping) 32
  /-- The occupancy roster, in order of admission. -/
  roster : List Occupant
  deadlines : List Deadline
  pairings : Vector (Option Pairing) 32
  channels : Vector Channel 16
  evac : Evac
  ports : Vector Port 4
  link : Link
  batch : Batch
  journal : List JournalRecord
  gapPending : Bool
  store : Store
  snap : SnapArea
  muster : Muster
  /-- The model's own counter of free values used (DESIGN CHOICE, log entry 9). -/
  freeCount : Nat
  deriving DecidableEq, Repr

/-- Why the machine stops with a fault. No command of this part stops it: the manual gives every request, frame and
event an outcome, if only that it is not taken, so this type has no constructor (safe). -/
inductive Fault where
  deriving DecidableEq, Repr

/-- Why a command is refused by the model. -/
inductive Refusal where
  /-- Raised by `exec` for a command that has no meaning yet; safe, since the run stops. No arm of `exec` raises it. -/
  | notModelled (mnemonic : String)
  deriving DecidableEq, Repr

/-! ## After reset -/

/-- The settings of a room never stored (R43). -/
def neverStoredSettings : RoomSettings :=
  { inUse := false, isolationRequired := false, presence := .any, maxOccupancy := 1, maxStay := 5, checkInterval := 0,
    grace := 0, events := .all }

/-- A room never stored, with no valid snapshot (R43). -/
def Room.afterReset : Room := { settings := neverStoredSettings, mode := .closed, prior := .closed, doorAlarm := false }

/-- A disabled channel with no recorded conversion (R136, R147), as a device reset leaves it. -/
def Channel.disabled : Channel := { held := none, candidate := none, lastValue := none, fromStart := false }

/-- A door port after a device reset (R168). -/
def Port.afterReset : Port := { queue := [], outcome := .starting, lastStatus := 0, lastShift := [] }

/-- The estate link after a device reset (R170, R178). -/
def Link.afterReset : Link :=
  { up := false, credits := 0, declared := 0, gatewayMax := 0, effectiveMax := Config.payloadMax, places := [], owed := 0,
    replies := [], discardsCrc := 0, discardsLength := 0, discardsOverrun := 0, eventInFlight := false, lastSent := [] }

/-- The batch machine in IDLE (R176). -/
def Batch.idle : Batch :=
  { phase := .idle, id := 0, declared := 0, received := 0, staging := [], check := 0, kept := none, overrun := false,
    closeTag := 0, applied := 0, remaining := 0, unqueued := [] }

/-- A store never written (log entry 2). -/
def Store.blank : Store :=
  { slots := [], dirty := [], seq := 1, queue := [], headPrevious := none, compaction := none, toRetire := [],
    engine := none }

/-- A snapshot area fully erased (log entry 2). -/
def SnapArea.blank : SnapArea :=
  { erased := .replicate 4 true, content := none, valid := false, consumed := false, writer := [], begun := false,
    toConsume := false, eraseRequested := false }

/-- The muster port after a device reset (R160): ROOM_SUMMARY for room 0 with ordinal 0, no kept answer. -/
def Muster.afterReset : Muster :=
  { straps := 0, address := 0x4C, kind := 1, room := 0, ordinal := 0, kept := none, lastRead := [] }

/-- The evacuation items after a device reset with no valid snapshot (R146, R148). -/
def Evac.afterReset : Evac :=
  { held := .inactive, candidate := none, samples := 0, hold := false, carryOver := false, active := false }

/-- The clock after a backup loss (R55). -/
def Clock.afterLoss : Clock := { value := 0, elapsed := 0, status := .unset, budgetDay := none }

/-- The machine right after its first power-on reset: STARTING, the backup domain found lost, the store never written
(log entry 2). START and CLOCK (UNSET) are journaled (R181, R55). -/
def State.reset : State :=
  { pending := []
    part := .starting
    supply := .normal
    warnedRunning := false
    restored := false
    clock := .afterLoss
    backupLost := true
    permits := []
    rooms := .replicate 16 .afterReset
    doors := .replicate 32 none
    roster := []
    deadlines := []
    pairings := .replicate 32 none
    channels := .replicate 16 .disabled
    evac := .afterReset
    ports := .replicate 4 .afterReset
    link := .afterReset
    batch := .idle
    journal :=
      [{ time := 0, gap := false, entry := { kind := .start, detail := .cause .powerOn } },
       { time := 0, gap := false, entry := { kind := .clock, detail := .clockStatus .unset } }]
    gapPending := false
    store := .blank
    snap := .blank
    muster := .afterReset
    freeCount := 0 }

end Sys2Proof.Machine
end

