-- ==== Sys2Proof/Machine/Flags.lean ====
section
/-! DEFINITION. Values the manual derives from held state whenever they are read: estate days and margins, stages and
their boundaries, classes and isolation states, the counts of rooms and queues, and the conditions of permits. -/

namespace Sys2Proof.Machine

open Sys2Proof (PermitKind PermitDef RoomSettings)

/-! ## Estate time (R1, R45, R46) -/

/-- A sum that is an estate time is held at 4,294,967,295 (R45). -/
def addTime (a b : Nat) : Nat := min (a + b) Config.timeMax

/-- The estate day of a time (R1). -/
def dayOf (t : Nat) : Nat := t / Config.daySeconds

/-- The second of the day of a time (R1). -/
def secondOfDay (t : Nat) : Nat := t % Config.daySeconds

/-- The weekday of a time, 0 Monday (R1). -/
def weekdayOf (t : Nat) : Nat := dayOf t % 7

/-- Rounded up to a whole minute (R1). -/
def roundUpMinute (n : Nat) : Nat := (n + 59) / 60 * 60

/-- Seconds rounded up to a whole minute and counted in minutes (R1, R102). -/
def minutesUp (n : Nat) : Nat := (n + 59) / 60

/-- The uncertainty U for an elapsed count (R46). -/
def uncertainty (elapsed : Nat) : Nat := min (elapsed / 1024) 3600

/-- The margin Ur for an elapsed count (R46). -/
def margin (elapsed : Nat) : Nat := roundUpMinute (uncertainty elapsed)

/-- The current estate time. -/
def State.now (s : State) : Nat := s.clock.value

/-- The start of the day after a budget day, where it is at most 4,294,967,295 (R52). -/
def dayDue (budgetDay : Nat) : Option Nat :=
  if Config.daySeconds * (budgetDay + 1) ≤ Config.timeMax then some (Config.daySeconds * (budgetDay + 1)) else none

/-! ## Stages (R104, R105) -/

/-- The order WITHIN, DUE, OVER, ALARM. -/
def Stage.rank : Stage → Nat
  | .within => 0
  | .due => 1
  | .overstay => 2
  | .alarm => 3

/-- The stage for a value of now, an allowance end and an overstay grace in minutes (R104). -/
def stageAt (now ae grace : Nat) : Stage :=
  if now + 300 < ae then .within
  else if now < ae then .due
  else if 0 < grace ∧ now < addTime ae (60 * grace) then .overstay
  else .alarm

/-- The next boundary of a stage (R105); none in ALARM. -/
def stayDueAt (st : Stage) (ae grace : Nat) : Option Nat :=
  match st with
  | .within => some (ae - 300)
  | .due => some ae
  | .overstay => some (addTime ae (60 * grace))
  | .alarm => none

/-! ## Supervised inputs (R136, R138, R141, R142) -/

/-- A room's channel is enabled while in use and isolation required are both yes (R136). -/
def channelEnabled (st : RoomSettings) : Bool := st.inUse && st.isolationRequired

/-- The class of one conversion (R138). -/
def classOf (v : BitVec 10) : HeldClass :=
  if v.toNat < 100 then .short
  else if v.toNat < 400 then .active
  else if v.toNat < 800 then .inactive
  else .openLoop

/-- The isolation state a held class gives; none is a disabled channel (R141). -/
def isolationOf : Option HeldClass → IsolationState
  | none => .notRequired
  | some .unknown => .unknown
  | some .active => .confirmed
  | some .inactive => .notConfirmed
  | some .short => .fault
  | some .openLoop => .fault

/-- SHORT or OPEN: a wiring fault (R142). -/
def HeldClass.isFault : HeldClass → Bool
  | .short => true
  | .openLoop => true
  | _ => false

/-- Whether a room's isolation events setting selects a held-class change (R142). -/
def selectsChange (ev : IsolationEvents) (before after : HeldClass) : Bool :=
  match ev with
  | .all => true
  | .faults => before.isFault || after.isFault

/-! ## Reading the tables -/

/-- The room record of a room number (R27). -/
def State.room (s : State) (r : RoomId) : Room := s.rooms.get r

/-- The mapping of a door, none where it is unmapped (R38). -/
def State.door (s : State) (d : DoorId) : Option DoorMapping := s.doors.get d

/-- The pending-pairing slot of a door (R81). -/
def State.pairing (s : State) (d : DoorId) : Option Pairing := s.pairings.get d

/-- The isolation channel of a room (R136). -/
def State.channel (s : State) (r : RoomId) : Channel := s.channels.get r

/-- A door port (R163). -/
def State.port (s : State) (p : PortId) : Port := s.ports.get p

/-- A room's isolation state (R141). -/
def State.isolation (s : State) (r : RoomId) : IsolationState := isolationOf (s.channel r).held

/-- The permit of a number (R5). -/
def State.permit? (s : State) (n : PermitNo) : Option Permit := s.permits.find? (fun p => p.defn.number == n)

/-- The roster record of a credential: at most one (R90). -/
def State.record? (s : State) (c : Credential) : Option Occupant := s.roster.find? (fun o => o.cred == c)

/-- A permit's occupant record (R5). -/
def State.occupantOf? (s : State) (n : PermitNo) : Option Occupant := s.roster.find? (fun o => o.permit == n)

/-- The room a room number names, none above 15. -/
def roomOfNat (n : Nat) : Option RoomId := if h : n < 16 then some ⟨n, h⟩ else none

/-- The door a door number names, none above 31. -/
def doorOfNat (n : Nat) : Option DoorId := if h : n < 32 then some ⟨n, h⟩ else none

/-- The port a port number names, none above 3. -/
def portOfNat (n : Nat) : Option PortId := if h : n < 4 then some ⟨n, h⟩ else none

/-- Every room, in ascending order. -/
def allRooms : List RoomId := List.finRange 16

/-- Every door, in ascending order. -/
def allDoors : List DoorId := List.finRange 32

/-- The doors mapped to a room, ascending (R41). -/
def State.doorsOfRoom (s : State) (r : RoomId) : List DoorId :=
  allDoors.filter fun d => (s.door d).any fun m => m.room == r

/-- The doors mapped to a port, ascending. -/
def State.doorsOfPort (s : State) (p : PortId) : List DoorId :=
  allDoors.filter fun d => (s.door d).any fun m => m.port == p

/-- A room's records in roster order (R90). -/
def State.inRoom (s : State) (r : RoomId) : List Occupant := s.roster.filter fun o => o.room == r

/-- A room's present count: its records in any state (R90). -/
def State.presentCount (s : State) (r : RoomId) : Nat := (s.inRoom r).length

/-- A room's UNACCOUNTED records in roster order (R161). -/
def State.unaccountedIn (s : State) (r : RoomId) : List Occupant :=
  (s.inRoom r).filter fun o => o.state == .unaccounted

/-- The door whose slot holds a credential's pending pairing: at most one (R81). -/
def State.pairingDoor (s : State) (c : Credential) : Option DoorId :=
  allDoors.find? fun d => (s.pairing d).any fun q => q.cred == c

/-- The room has a pending pairing at one of its doors (R29). -/
def State.roomHasPairing (s : State) (r : RoomId) : Bool :=
  (s.doorsOfRoom r).any fun d => (s.pairing d).isSome

/-- The room is IN_SERVICE or CLOSED. -/
def Mode.isOrdinary : Mode → Bool
  | .inService => true
  | .closed => true
  | .evacuating => false
  | .muster => false

/-- The record is ARRIVING or INSIDE. -/
def OccState.isPresent : OccState → Bool
  | .arriving => true
  | .inside => true
  | .unaccounted => false

/-! ## Outbound queues (R165) -/

/-- The decisions owed to a port's queue: the filled slots at its doors. -/
def State.owedDecisions (s : State) (p : PortId) : Nat :=
  ((s.doorsOfPort p).filter fun d => (s.pairing d).isSome).length

/-- The free places of a port's queue less the decisions owed to it. -/
def State.uncommitted (s : State) (p : PortId) : Nat :=
  Config.portPlaces - (s.port p).queue.length - s.owedDecisions p

/-- DPk_ATTN is asserted while the port's queue holds an item (R166). -/
def State.attn (s : State) (p : PortId) : Bool := !(s.port p).queue.isEmpty

/-! ## Permits (R4, R12, R21, R70, R119) -/

/-- The budget, or 1440 where there is none (R4). -/
def budgetCap (d : PermitDef) : Nat := d.budget.getD 1440

/-- A permit names a room (R68). -/
def namesRoom (d : PermitDef) (r : RoomId) : Bool := d.rooms.getLsbD r.val

/-- The kind of a record: the kind of its permit (R89). -/
def State.kindOf (s : State) (o : Occupant) : PermitKind :=
  match s.permit? o.permit with
  | some p => p.defn.kind
  | none => .contractor

/-- A record has escort capacity: its permit is ESCORT and not REVOKED (R12, R119). -/
def State.escortCapacity (s : State) (o : Occupant) : Bool :=
  match s.permit? o.permit with
  | some p => p.defn.kind == .escort && p.state != .revoked
  | none => false

/-- The cover limit of a record's permit, 0 where it has none. -/
def State.coverLimit (s : State) (o : Occupant) : Nat :=
  match s.permit? o.permit with
  | some p => p.defn.coverLimit.getD 0
  | none => 0

/-- A record's spare cover (R119). -/
def State.spareCover (s : State) (o : Occupant) : Nat :=
  if s.escortCapacity o && o.state.isPresent then s.coverLimit o - o.covers.length else 0

/-- The oldest escort with spare cover in a room (R76, R79). -/
def State.oldestEscort (s : State) (r : RoomId) : Option Occupant :=
  (s.inRoom r).find? fun o => decide (0 < s.spareCover o)

/-- The escort a released contractor is reassigned to (R122): the oldest with spare cover in the room. The escort that
lost the contractor is never a candidate (R121), not even where a later record of the same batch has raised its limit. -/
def State.newEscort (s : State) (lost : Option Credential) (r : RoomId) : Option Occupant :=
  (s.inRoom r).find? fun o => decide (0 < s.spareCover o) && lost != some o.cred

/-- A permit needs an escort: CONTRACTOR with the escort requirement ESCORT (R76). -/
def requiresEscort (d : PermitDef) : Bool := d.kind == .contractor && d.requirement == .escort

/-- The margin m a permit's window and hours are narrowed by (R70). -/
def permitMargin (d : PermitDef) (elapsed : Nat) : Nat :=
  match d.kind with
  | .contractor => margin elapsed
  | .escort => 0

/-- The window, weekday and daily-hours tests at a time with a margin (R70). -/
def insideWindow (d : PermitDef) (m now : Nat) : Bool :=
  (decide (addTime d.windowStart m ≤ now) && decide (now < d.windowEnd - m)) &&
  (match d.weekdays with
   | none => true
   | some w => w.getLsbD (weekdayOf now)) &&
  (match d.hours with
   | none => true
   | some (f, t) => decide (f + m ≤ secondOfDay now) && decide (secondOfDay now < t - m))

/-- An ESCORT permit with the clock UNSET or LOST: its window, weekday and hours checks are passed over (R47, R69). -/
def passesUntimed (d : PermitDef) (st : ClockStatus) : Bool := d.kind == .escort && st != .set

/-- The smallest of a list of candidates, the first being always present (R71, R111). -/
def smallest (a : Int) (rest : List Int) : Int := rest.foldl min a

/-- Rounded down to a whole minute, 0 where the value is below 0 (R71, R111). -/
def floorMinute (a : Int) : Nat := a.toNat / 60 * 60

/-- The window and daily-hours candidates of an allowance (R71 a and b, R111 a and b). -/
def timeCandidates (d : PermitDef) (m now : Nat) : List Int :=
  ((d.windowEnd : Int) - m - now) ::
  (match d.hours with
   | none => []
   | some (_, t) => [(t : Int) - m - secondOfDay now])

/-- The allowance of a permit at entry, in seconds (R69, R71); `maxStay` is the room's M. -/
def entryAllowance (d : PermitDef) (st : ClockStatus) (elapsed now used maxStay : Nat) : Nat :=
  if passesUntimed d st then 60 * maxStay
  else
    floorMinute (smallest (60 * maxStay : Nat)
      (timeCandidates d (permitMargin d elapsed) now ++
        (match d.budget with
         | none => []
         | some b => [60 * ((b : Int) - used)])))

/-- The allowance EXTEND computes, in seconds (R111); `maxStay` is the room's M. -/
def extendAllowance (d : PermitDef) (st : ClockStatus) (elapsed now used maxStay entryTime chargeStart : Nat) : Nat :=
  floorMinute (smallest ((addTime entryTime (60 * maxStay) : Int) - now)
    ((if passesUntimed d st then [] else timeCandidates d (permitMargin d elapsed) now) ++
      (match d.budget with
       | none => []
       | some b => [60 * max 0 ((b : Int) - used - minutesUp (now - chargeStart))])))

/-! ## The store (R182) -/

/-- The key of a definition. -/
def Defn.key : Defn → Key
  | .permit d _ => .permit d.number
  | .room r _ => .room r
  | .door d _ => .door d

/-- The key of a write queue entry. -/
def WriteEntry.key (e : WriteEntry) : Key :=
  match e.job with
  | .version d => d.key
  | .retire k => k

/-- The free places of the write queue. -/
def State.writePlaces (s : State) : Nat := Config.writeQueueMax - s.store.queue.length

end Sys2Proof.Machine
end

