-- ==== Sys2Proof/Machine/Operands.lean ====
section
/-! DEFINITION. How a command's operands are read: the request a door port's exchange carries (R164), and the waiting
frame of the estate link that a command is (R172). -/

namespace Sys2Proof.Machine

/-- The request frame of an exchange of the row with this kind code and payload length, where the row's own value stands
at a place of the payload (ARRIVAL's result, DOOR_ALARM's condition): its door and payload; none is BAD_FRAME (R164). -/
def requestOf (code len : Nat) (value : Option (Nat × Nat)) (x : Exchange) : Option (Byte × List Byte) :=
  match judgeRequest code len x.sdi with
  | none => none
  | some (door, payload) =>
    match value with
    | none => some (door, payload)
    | some (place, v) => if (byteAt payload place).toNat = v then some (door, payload) else none

/-- The frame is of the same group as the store commands, or of the other group (R172). -/
def LinkFrame.inGroup (store : Bool) (f : LinkFrame) : Bool := isStoreKind f.kind == store

/-- The first waiting frame of a group: the frames of a group are taken in the order they arrived (R172). -/
def firstOf (store : Bool) (places : List LinkFrame) : Option LinkFrame := places.find? (LinkFrame.inGroup store)

/-- The waiting frames without the first one of a group. -/
def dropFirst (store : Bool) : List LinkFrame → List LinkFrame
  | [] => []
  | f :: rest => if f.inGroup store then rest else f :: dropFirst store rest

/-- A group's frames may be taken at this instant (R172, R184): the part is RUNNING and the link UP, fewer than 8 replies
wait, and for a store command the write queue has a free place and no applied batch has writes still to be queued. -/
def State.mayTake (s : State) (store : Bool) : Bool :=
  decide (s.part = .running) && s.link.up && decide (s.link.replies.length < Config.repliesMax) &&
    (!store || (decide (0 < s.writePlaces) && s.batch.unqueued.isEmpty))

/-- The frame that a group offers now is this command with this tag. -/
def State.offers (s : State) (store : Bool) (tag : Byte) (c : Option LinkCommand) : Bool :=
  s.mayTake store &&
    match firstOf store s.link.places with
    | none => false
    | some f => f.tag == tag && decodeCommand f.kind f.payload == c

/-- The frame leaves its place, which is free: one credit more is owed to the gateway (R171). -/
def State.freePlace (s : State) (store : Bool) : State :=
  { s with link := { s.link with places := dropFirst store s.link.places, owed := s.link.owed + 1 } }

/-- A REPLY joins the unsent replies (R173). -/
def State.reply (s : State) (tag : Byte) (r : ReplyResult) (fields : List Byte) : State :=
  { s with link := { s.link with replies := s.link.replies ++ [.reply tag r fields] } }

/-- A command's frame is taken where its group offers it now, and has an effect; otherwise it has none (R172). -/
def State.takeFrame (s : State) (store : Bool) (tag : Byte) (c : Option LinkCommand) (effect : State → State) : State :=
  if s.offers store tag c then effect (s.freePlace store) else s

/-- The answer a command's own rule gives: the state after its effects, the result and the reply fields. -/
structure Answer where
  state : State
  result : ReplyResult
  fields : List Byte

/-- A refusal: nothing has changed (R173). -/
def State.refuse (s : State) (r : ReplyResult) : Answer := { state := s, result := r, fields := [] }

/-- OK with no reply fields (R188). -/
def State.okay (s : State) : Answer := { state := s, result := .ok, fields := [] }

/-- OK with reply fields (R188). -/
def State.okayWith (s : State) (fields : List Byte) : Answer := { state := s, result := .ok, fields := fields }

/-- A command is taken and answered by one REPLY carrying its tag (R173). -/
def State.takeCommand (s : State) (store : Bool) (tag : Byte) (c : LinkCommand) (act : State → Answer) : State :=
  s.takeFrame store tag (some c) fun t => (act t).state.reply tag (act t).result (act t).fields

end Sys2Proof.Machine
end

