-- ==== Sys2Proof/Machine/Ops.lean ====
section
/-! DEFINITION. The named operations every command is written over: writing the journal (R180), the deadline queue
(R113, R114), the outbound queues and notices (R41, R165), pending pairings (R88), permit and occupant records, stages
(R106, R107) and curtailment (R108). -/

namespace Sys2Proof.Machine

/-! ## The journal -/

/-- A producing rule writes a record (R180): stored at the tail while fewer than 256 are held, with the gap flag where
gap pending is set; otherwise dropped, and gap pending is set. -/
def State.write (s : State) (e : JournalEntry) : State :=
  if s.journal.length < Config.journalMax then
    { s with journal := s.journal ++ [{ time := s.now, gap := s.gapPending, entry := e }], gapPending := false }
  else { s with gapPending := true }

/-! ## The deadline queue -/

/-- Two owners share a slot of the queue: STAY with STAY, the WATCH kinds ARRIVE and CHECK with one another, PAIR with
its door's, DAY with DAY (R113). -/
def Owner.sameSlot : Owner → Owner → Bool
  | .stay a, .stay b => a == b
  | .arrive a, .arrive b => a == b
  | .arrive a, .check b => a == b
  | .check a, .arrive b => a == b
  | .check a, .check b => a == b
  | .pair a, .pair b => a == b
  | .day, .day => true
  | _, _ => false

/-- An entry is a record's STAY or WATCH entry. -/
def Owner.ofRecord (c : Credential) : Owner → Bool
  | .stay a => a == c
  | .arrive a => a == c
  | .check a => a == c
  | .pair _ => false
  | .day => false

/-- Places an entry by due time, after the entries of an equal due time (R114). -/
def insertDeadline (e : Deadline) : List Deadline → List Deadline
  | [] => [e]
  | x :: rest => if x.due ≤ e.due then x :: insertDeadline e rest else e :: x :: rest

/-- Cancels the entry of exactly this owner and kind (R114). -/
def State.cancel (s : State) (o : Owner) : State :=
  { s with deadlines := s.deadlines.filter fun e => e.owner != o }

/-- Cancels a record's STAY and WATCH entries (R100, R151). -/
def State.cancelRecord (s : State) (c : Credential) : State :=
  { s with deadlines := s.deadlines.filter fun e => !e.owner.ofRecord c }

/-- Arms an owner's entry: the entry its slot held is removed and the new one placed (R113, R114). -/
def State.arm (s : State) (o : Owner) (due : EstateTime) : State :=
  { s with deadlines := insertDeadline { due := due, owner := o } (s.deadlines.filter fun e => !e.owner.sameSlot o) }

/-! ## Records -/

/-- Changes the permit record of a number. -/
def State.updatePermit (s : State) (n : PermitNo) (f : Permit → Permit) : State :=
  { s with permits := s.permits.map fun p => if p.defn.number == n then f p else p }

/-- Changes the roster record of a credential. -/
def State.updateRecord (s : State) (c : Credential) (f : Occupant → Occupant) : State :=
  { s with roster := s.roster.map fun o => if o.cred == c then f o else o }

/-- Replaces the room record of a room. -/
def State.setRoom (s : State) (r : RoomId) (x : Room) : State := { s with rooms := s.rooms.set r.val x r.isLt }

/-- Replaces the record of a door. -/
def State.setDoor (s : State) (d : DoorId) (x : Option DoorMapping) : State :=
  { s with doors := s.doors.set d.val x d.isLt }

/-- Replaces the slot of a door. -/
def State.setPairing (s : State) (d : DoorId) (x : Option Pairing) : State :=
  { s with pairings := s.pairings.set d.val x d.isLt }

/-- Replaces the channel of a room. -/
def State.setChannel (s : State) (r : RoomId) (x : Channel) : State :=
  { s with channels := s.channels.set r.val x r.isLt }

/-- Replaces a door port. -/
def State.setPort (s : State) (p : PortId) (x : Port) : State := { s with ports := s.ports.set p.val x p.isLt }

/-- Sets a room's mode. -/
def State.setMode (s : State) (r : RoomId) (m : Mode) : State := s.setRoom r { s.room r with mode := m }

/-- Sets a room's prior mode. -/
def State.setPrior (s : State) (r : RoomId) (m : Mode) : State := s.setRoom r { s.room r with prior := m }

/-! ## Outbound queues and notices -/

/-- A door's number as its byte in items and frames. -/
def doorByte (d : DoorId) : Byte := BitVec.ofNat 8 d.val

/-- A decision or result is placed at the tail of a port's queue, always (R165). -/
def State.place (s : State) (p : PortId) (i : Item) : State :=
  s.setPort p { s.port p with queue := (s.port p).queue ++ [i] }

/-- A notice for one door is placed where its port's uncommitted places are 5 or more, and is dropped otherwise (R165). -/
def State.noticeAt (s : State) (r : RoomId) (n : Notice) (d : DoorId) : State :=
  match s.door d with
  | none => s
  | some m => if 5 ≤ s.uncommitted m.port then s.place m.port (.notice d r n) else s

/-- A notice to every door of a room, in ascending order of door number (R41). -/
def State.notify (s : State) (r : RoomId) (n : Notice) : State :=
  (s.doorsOfRoom r).foldl (fun t d => t.noticeAt r n d) s

/-! ## Pending pairings -/

/-- Empties a door's slot and removes its PAIR entry. -/
def State.clearPairing (s : State) (d : DoorId) : State := (s.setPairing d none).cancel (.pair d)

/-- The REFUSE record of a first presenter whose slot ends without a grant: it carries the stored need (R59, R81). -/
def pairingRefusal (s : State) (d : DoorId) (q : Pairing) (reason : Reason) (permit : Option PermitNo) : JournalEntry :=
  { kind := .refuse, room := (s.door d).map (·.room), door := some (doorByte d), cred := some q.cred, permit := permit,
    detail := .refusal reason (some q.need) }

/-- Ends a door's pending pairing with a final decision REFUSE in its port's queue and its journal record (R84, R87,
R88); an empty slot is left. -/
def State.endPairing (s : State) (reason : Reason) (permit : Option PermitNo) (d : DoorId) : State :=
  match s.pairing d with
  | none => s
  | some q =>
    let t := s.clearPairing d
    let u := match s.door d with
      | none => t
      | some m => t.place m.port (.decision (doorByte d) q.cred (.refuse reason))
    u.write (pairingRefusal s d q reason permit)

/-- Ends a door's pending pairing with no answer, as PORT_RESET does (R88, R167). -/
def State.dropPairing (s : State) (d : DoorId) : State :=
  match s.pairing d with
  | none => s
  | some q => (s.clearPairing d).write (pairingRefusal s d q .pairCancelled none)

/-- Cancels every pending pairing at a door of a room, in ascending door order (R34, R150). -/
def State.endRoomPairings (s : State) (r : RoomId) (reason : Reason) : State :=
  (s.doorsOfRoom r).foldl (fun t d => t.endPairing reason none d) s

/-- Ends the pending pairing a credential holds at any door with REFUSE PAIR_CANCELLED (R88). -/
def State.cancelPairingOf (s : State) (c : Credential) : State :=
  match s.pairingDoor c with
  | none => s
  | some d => s.endPairing .pairCancelled none d

/-! ## Stages and curtailment -/

/-- Re-arms a record's STAY slot at the next boundary of its stage; none in ALARM (R105). -/
def State.rearmStay (s : State) (c : Credential) : State :=
  match s.record? c with
  | none => s
  | some o =>
    match stayDueAt o.stage o.allowanceEnd (s.room o.room).settings.grace with
    | some t => s.arm (.stay c) t
    | none => s.cancel (.stay c)

/-- The outputs of a stage reached: a notice to every door of the room, and a journal record for OVER and ALARM (R106). -/
def State.stageOutputs (s : State) (o : Occupant) (st : Stage) : State :=
  match st with
  | .within => s
  | .due => s.notify o.room { kind := .stayDue, cred := some o.cred, time := o.allowanceEnd }
  | .overstay =>
    (s.notify o.room { kind := .stayOver, cred := some o.cred, time := o.allowanceEnd }).write
      { kind := .stayOver, room := some o.room, cred := some o.cred, permit := some o.permit,
        detail := .instant o.allowanceEnd }
  | .alarm =>
    (s.notify o.room { kind := .stayAlarm, cred := some o.cred, time := o.allowanceEnd }).write
      { kind := .stayAlarm, room := some o.room, cred := some o.cred, permit := some o.permit,
        detail := .instant o.allowanceEnd }

/-- The stage R104 gives a record now. -/
def State.stageNow (s : State) (o : Occupant) : Stage :=
  stageAt s.now o.allowanceEnd (s.room o.room).settings.grace

/-- A record takes a stage, and where it is later than the held one that stage's outputs are issued (R106, R107). -/
def State.takeStage (s : State) (o : Occupant) (st : Stage) : State :=
  let t := s.updateRecord o.cred fun x => { x with stage := st }
  if o.stage.rank < st.rank then t.stageOutputs o st else t

/-- The STAY entry of a record is taken: a later stage is taken with its outputs, the held one is kept otherwise, and the
slot is re-armed (R106). -/
def State.stayTaken (s : State) (c : Credential) : State :=
  match s.record? c with
  | none => s
  | some o =>
    (if o.stage.rank < (s.stageNow o).rank then s.takeStage o (s.stageNow o) else s).rearmStay c

/-- A record's stage is recomputed after its allowance end has changed: taken whatever it is, with outputs where it is
later than the held one, and the slot re-armed (R107). -/
def State.recomputeStage (s : State) (c : Credential) : State :=
  match s.record? c with
  | none => s
  | some o => (s.takeStage o (s.stageNow o)).rearmStay c

/-- A record held OVER or ALARM: a curtailment issues its notice and its record, and keeps the allowance end, the stage and
the STAY entry (R105, R108, R123), wherever the allowance end lies (DEDUCED, log entry 59). -/
def Occupant.overstayed (o : Occupant) : Bool := decide (Stage.due.rank < o.stage.rank)

/-- The allowance end after a curtailment to a limit: the earlier of the two, and that of a record held OVER or ALARM as it
was (R108). -/
def Occupant.curtailedEnd (o : Occupant) (limit : EstateTime) : EstateTime :=
  if o.overstayed then o.allowanceEnd else min o.allowanceEnd limit

/-- Curtails a record with a reason and a grace (R108), where it is ARRIVING or INSIDE in an IN_SERVICE or CLOSED room;
nothing otherwise (R109). A record held WITHIN or DUE whose allowance end has come, its STAY entry not yet taken, takes OVER
or ALARM with that stage's outputs, as R107's recomputation gives it, although R108 says that a curtailment takes no such
record further than DUE (DESIGN CHOICE, log entry 60). -/
def State.curtail (s : State) (reason : CurtailReason) (grace : Nat) (c : Credential) : State :=
  match s.record? c with
  | none => s
  | some o =>
    if o.state.isPresent && (s.room o.room).mode.isOrdinary then
      let ae := o.curtailedEnd (addTime s.now grace)
      let t := ((s.updateRecord c fun x => { x with allowanceEnd := ae }).notify o.room
          { kind := .curtailed, cred := some c, time := ae, detail := .reason reason }).write
        { kind := .curtailed, room := some o.room, cred := some c, permit := some o.permit,
          detail := .curtail reason o.allowanceEnd ae }
      if o.overstayed then t else t.recomputeStage c
    else s

end Sys2Proof.Machine
end

