-- ==== Sys2Proof/Machine/Store.lean ====
section
/-! DEFINITION. The permit store: slots and pages, the write queue, compaction and the one flash engine (R182, R183), the
completion of write queue entries and of an applied batch (R175), and the reading of the store after a reset (R185). -/

namespace Sys2Proof.Machine

/-! ## Slots -/

/-- The slot at a slot number; none is ERASED, what an unlisted slot reads as (R182). -/
def slotAt (slots : List (Nat × Slot)) (addr : Nat) : Option Slot :=
  match slots with
  | [] => none
  | (a, v) :: rest => if a = addr then some v else slotAt rest addr

/-- Puts a slot that is not ERASED, keeping the slot numbers strictly rising. -/
def putSlot (addr : Nat) (v : Slot) : List (Nat × Slot) → List (Nat × Slot)
  | [] => [(addr, v)]
  | (a, w) :: rest =>
    if a < addr then (a, w) :: putSlot addr v rest
    else if a = addr then (addr, v) :: rest
    else (addr, v) :: (a, w) :: rest

/-- The page of a slot number. -/
def pageOf (addr : Nat) : Nat := addr / Config.pageSlots

/-- A completed erase leaves all 32 slots of a page ERASED (R182). -/
def erasePage (page : Nat) (slots : List (Nat × Slot)) : List (Nat × Slot) :=
  slots.filter fun x => pageOf x.1 != page

/-- The slots' canonical form: numbers strictly rising and inside the main area. -/
def slotsWf : List (Nat × Slot) → Bool
  | [] => true
  | [(a, _)] => decide (a < Config.storeSlots)
  | (a, _) :: (b, w) :: rest => decide (a < b) && slotsWf ((b, w) :: rest)

/-- The slots outside DIRTY pages; the contents of a DIRTY page are ignored (R185). -/
def Store.cleanSlots (st : Store) : List (Nat × Slot) := st.slots.filter fun x => !st.dirty.contains (pageOf x.1)

/-- How many slots of the main area are ERASED, DIRTY pages apart (R182). -/
def Store.erasedCount (st : Store) : Nat :=
  Config.pageSlots * (Config.storePages - st.dirty.length) - st.cleanSlots.length

/-- The slot is ERASED and may be programmed. -/
def Store.isErased (st : Store) (addr : Nat) : Bool :=
  (slotAt st.slots addr).isNone && !st.dirty.contains (pageOf addr)

/-- The lowest ERASED slot of the lowest page that has one (R182). -/
def Store.lowestErased (st : Store) : Option Nat := (List.range Config.storeSlots).find? st.isErased

/-- The WRITTEN slots whose check matches, outside DIRTY pages: slot number, definition, sequence number. -/
def Store.writtenSlots (st : Store) : List (Nat × Defn × Nat) :=
  st.cleanSlots.filterMap fun x =>
    match x.2 with
    | .written d q true => some (x.1, d, q)
    | .written _ _ false => none
    | .retired => none

/-- The live versions: for each key the WRITTEN slot with the highest sequence number (R185). -/
def Store.liveSlots (st : Store) : List (Nat × Defn × Nat) :=
  st.writtenSlots.filter fun x =>
    st.writtenSlots.all fun y => (y.2.1.key != x.2.1.key) || decide (y.2.2 ≤ x.2.2)

/-- The slot that holds a key's version, where there is one. -/
def Store.liveSlot (st : Store) (k : Key) : Option Nat :=
  (st.liveSlots.find? fun x => x.2.1.key == k).map (·.1)

/-- How many slots of a page are RETIRED. -/
def Store.retiredIn (st : Store) (page : Nat) : Nat :=
  (st.slots.filter fun x => pageOf x.1 == page && x.2 == .retired).length

/-- The slot numbers of a page's WRITTEN slots. -/
def Store.writtenIn (st : Store) (page : Nat) : List Nat :=
  (st.writtenSlots.filter fun x => pageOf x.1 == page).map (·.1)

/-- Compaction is wanted while fewer than 64 slots are ERASED, and while any page is DIRTY (R182). -/
def Store.compactionWanted (st : Store) : Bool :=
  decide (st.erasedCount < Config.compactionLimit) || !st.dirty.isEmpty

/-- The page with the most RETIRED slots, the lowest page number among equals (R182). -/
def Store.mostRetired (st : Store) : Nat :=
  (List.range Config.storePages).foldl (fun best p => if st.retiredIn best < st.retiredIn p then p else best) 0

/-- The page compaction takes: a DIRTY page before any other, the lowest of them (R182). Its contents are ignored, so it
has nothing to copy and its mark is already programmed. -/
def Store.nextPage (st : Store) : Compaction :=
  match st.dirty.foldl (fun best p => match best with
      | none => some p
      | some q => some (min p q)) none with
  | some p => { page := p, todo := [], marked := true }
  | none => { page := st.mostRetired, todo := st.writtenIn st.mostRetired, marked := false }

/-- The ERASED slots of other pages that a copy may go to (R182). -/
def Store.copyTargets (st : Store) (page : Nat) : List Nat :=
  (List.range Config.storeSlots).filter fun a => st.isErased a && pageOf a != page

/-! ## The engine -/

/-- Puts an operation in flight. -/
def State.startOp (s : State) (op : FlashOp) : State := { s with store := { s.store with engine := some op } }

/-- What an operation would program into the snapshot area. -/
def FlashOp.snapshot? : FlashOp → Option Snapshot
  | .snapProgram sn => some sn
  | _ => none

/-- A snapshot page is no longer fully erased from the instant the snapshot's program begins (R184). -/
def FlashOp.soil (op : FlashOp) (erased : Vector Bool 4) : Vector Bool 4 :=
  if op.snapshot?.isSome then .replicate 4 false else erased

/-- The snapshot writer's next operation, where it has one. -/
def State.startSnapshotOp (s : State) : Option State :=
  match s.snap.writer with
  | [] => none
  | op :: rest =>
    some (({ s with snap := { s.snap with writer := rest, erased := op.soil s.snap.erased } } : State).startOp op)

/-- Start-up's next operation: a retirement of R185, then the consumed mark of R186. While STARTING the engine serves
these alone (log entry 8). -/
def State.serveStartUp (s : State) : State :=
  match s.store.toRetire with
  | a :: rest => ({ s with store := { s.store with toRetire := rest } } : State).startOp (.retireStale a)
  | [] =>
    if s.snap.toConsume then ({ s with snap := { s.snap with toConsume := false } } : State).startOp .snapConsumed else s

/-- The copy of one WRITTEN slot of the page: which slot is copied next, and to which ERASED slot of another page, the
manual leaves open (log entry 9). -/
def State.startCopy (s : State) (job : Compaction) : Option State :=
  let src := job.todo.getD (Config.copyOrder s.freeCount % job.todo.length) 0
  let targets := s.store.copyTargets job.page
  let dst := targets.getD (Config.copyTarget s.freeCount % targets.length) 0
  match slotAt s.store.slots src, targets with
  | some (.written d _ _), _ :: _ =>
    some (({ s with
      freeCount := s.freeCount + 1
      store := { s.store with compaction := some { job with todo := job.todo.filter (· != src) } } } : State).startOp
        (.copy src dst d s.store.seq))
  | _, _ => none

/-- Compaction's next operation: copy, mark, erase (R182). -/
def State.startCompactionOp (s : State) : Option State :=
  match s.store.compaction with
  | some job =>
    if job.todo ≠ [] then s.startCopy job
    else if job.marked then some (s.startOp (.erase job.page))
    else some (s.startOp (.mark job.page))
  | none =>
    if s.store.compactionWanted then
      let job := s.store.nextPage
      let t : State := { s with store := { s.store with compaction := some job } }
      if job.todo ≠ [] then t.startCopy job
      else if job.marked then some (t.startOp (.erase job.page))
      else some (t.startOp (.mark job.page))
    else none

/-- The snapshot area's erase: its next page that is not erased (R183, R184). -/
def State.startSnapErase (s : State) : State :=
  if s.snap.eraseRequested then
    match (List.finRange 4).find? (fun k => !s.snap.erased.get k) with
    | some k => s.startOp (.snapErase k)
    | none => s
  else s

/-- A permit's store-pending flag is cleared unless another write is queued for it, or waits to be (R7, R182). -/
def State.clearPending (s : State) (k : Key) : State :=
  match k with
  | .permit n =>
    if (s.store.queue ++ s.batch.unqueued).any (fun e => e.key == .permit n) then s
    else s.updatePermit n fun p => { p with storePending := false }
  | .room _ => s
  | .door _ => s

/-- Places that are free go to the applied batch's writes first, in staging order (R172, R175). -/
def State.refillQueue (s : State) : State :=
  { s with
    store := { s.store with queue := s.store.queue ++ s.batch.unqueued.take s.writePlaces }
    batch := { s.batch with unqueued := s.batch.unqueued.drop s.writePlaces } }

/-- One write of the applied batch has completed; with the last, BATCH_DONE APPLIED is made and the machine returns to
IDLE (R175). -/
def State.batchWriteDone (s : State) : State :=
  if s.batch.remaining ≤ 1 then
    { s with
      link := { s.link with
        replies := s.link.replies ++ [.batchDone s.batch.closeTag s.batch.id none s.batch.applied] }
      batch := .idle }
  else { s with batch := { s.batch with remaining := s.batch.remaining - 1 } }

/-- The head entry of the write queue completes: it leaves the queue, its place is free, its permit's store-pending flag
is cleared where it was the last, and the batch counts its write (R182, R175). -/
def State.entryDone (s : State) : State :=
  match s.store.queue with
  | [] => s
  | e :: rest =>
    let t : State := { s with store := { s.store with queue := rest, headPrevious := none } }
    let u := t.clearPending e.key
    let v := if e.fromBatch then u.batchWriteDone else u
    v.refillQueue

/-- The head entry of the write queue, then the snapshot-area erase (R183). A retirement whose key has no slot has no
operation to make and completes at once; a version write with no ERASED slot waits for compaction (R183). -/
def State.serveQueue : Nat → State → State
  | 0, s => s
  | fuel + 1, s =>
    match s.store.queue with
    | [] => s.startSnapErase
    | e :: _ =>
      match e.job with
      | .version d =>
        match s.store.headPrevious with
        | some a => s.startOp (.retire a)
        | none =>
          match s.store.lowestErased with
          | some a => s.startOp (.program a d s.store.seq)
          | none => s.startSnapErase
      | .retire k =>
        match s.store.liveSlot k with
        | some a => s.startOp (.retire a)
        | none => s.entryDone.serveQueue fuel

/-- A free engine takes the next operation of the first requester that has one (R183): the snapshot writer, compaction,
the write queue's head, the snapshot-area erase. In LOW_POWER the snapshot writer alone is served, and while STARTING
what start-up itself has to make (R185, R186). -/
def State.engineNext (s : State) : State :=
  if s.store.engine.isSome then s
  else
    match s.part with
    | .starting => s.serveStartUp
    | .lowPower => s.startSnapshotOp.getD s
    | .running =>
      match s.startSnapshotOp with
      | some t => t
      | none =>
        match s.startCompactionOp with
        | some t => t
        | none => s.serveQueue (s.store.queue.length + s.batch.unqueued.length + 1)

/-- Queues one write or retirement (R182). -/
def State.queueWrite (s : State) (job : WriteJob) : State :=
  ({ s with store := { s.store with queue := s.store.queue ++ [{ job := job, fromBatch := false }] } } : State).engineNext

/-! ## Completion of an operation -/

/-- Programs a slot: WRITTEN, and the sequence counter rises by one (R182). -/
def State.programSlot (s : State) (addr : Nat) (d : Defn) (seq : Nat) : State :=
  { s with store := { s.store with slots := putSlot addr (.written d seq true) s.store.slots, seq := seq + 1 } }

/-- The effect of one operation's completion (R182, R183, R184). -/
def State.opDone (s : State) : FlashOp → State
  | .program addr d seq =>
    let previous := s.store.liveSlot d.key
    let t := s.programSlot addr d seq
    match previous with
    | none => t.entryDone
    | some a => { t with store := { t.store with headPrevious := some a } }
  | .retire addr =>
    ({ s with store := { s.store with slots := putSlot addr .retired s.store.slots } } : State).entryDone
  | .retireStale addr => { s with store := { s.store with slots := putSlot addr .retired s.store.slots } }
  | .copy src dst d seq =>
    let t := s.programSlot dst d seq
    if t.store.headPrevious = some src then
      { t with store := { t.store with headPrevious := some dst } }
    else t
  | .mark page =>
    { s with store := { s.store with
        dirty := page :: s.store.dirty.filter (· != page)
        compaction := s.store.compaction.map fun j => { j with marked := true } } }
  | .erase page =>
    { s with store := { s.store with
        slots := erasePage page s.store.slots
        dirty := s.store.dirty.filter (· != page)
        compaction := none } }
  | .snapProgram sn => { s with snap := { s.snap with content := some sn } }
  | .snapValid => { s with snap := { s.snap with valid := true } }
  | .snapConsumed => { s with snap := { s.snap with consumed := true } }
  | .snapErase k =>
    let e := s.snap.erased.set k.val true k.isLt
    if (List.finRange 4).all (fun j => e.get j) then
      { s with snap := { s.snap with
          erased := e, content := none, valid := false, consumed := false, eraseRequested := false } }
    else { s with snap := { s.snap with erased := e } }

/-- FLASH_OPERATION_COMPLETE: the operation in flight completes, and the engine takes the next (R183). -/
def State.flashComplete (s : State) : State :=
  match s.store.engine with
  | none => s
  | some op => (({ s with store := { s.store with engine := none } } : State).opDone op).engineNext

/-! ## The warning and the reset -/

/-- What becomes of the operation in flight at a low-voltage warning: a page erase is abandoned, any program completes
(R184). -/
def State.abandonErase (s : State) : State :=
  match s.store.engine with
  | some (.erase _) => { s with store := { s.store with engine := none, compaction := none } }
  | some (.snapErase _) => { s with store := { s.store with engine := none } }
  | _ => s

/-- A slot program cut short by a reset leaves a WRITTEN slot whose check does not match (R185). -/
def tornSlot (addr : Nat) (d : Defn) (seq : Nat) (st : Store) : Store :=
  { st with slots := putSlot addr (.written d seq false) st.slots }

/-- What a device reset leaves of the operation in flight: a slot program is cut short (R185); the retirement of a
write-queue entry has not been made, so that a REMOVE or a purge is lost (R7, R26) and a version write leaves two WRITTEN
slots (R183); an erase leaves its page as it was, DIRTY (R184); a snapshot not ended by its valid mark is not valid (R184);
and whether a mark, or a retirement of start-up, has taken effect is a free value (log entry 10). -/
def cutOp (took : Bool) (st : Store) (sn : SnapArea) : Store × SnapArea :=
  match st.engine with
  | none => (st, sn)
  | some (.program addr d seq) => (tornSlot addr d seq st, sn)
  | some (.copy _ dst d seq) => (tornSlot dst d seq st, sn)
  | some (.retire _) => (st, sn)
  | some (.retireStale addr) =>
    (if took then { st with slots := putSlot addr .retired st.slots } else st, sn)
  | some (.mark page) => (if took then { st with dirty := page :: st.dirty.filter (· != page) } else st, sn)
  | some (.erase _) => (st, sn)
  | some (.snapProgram _) => (st, sn)
  | some .snapValid => (st, if took then { sn with valid := true } else sn)
  | some .snapConsumed => (st, if took then { sn with consumed := true } else sn)
  | some (.snapErase _) => (st, sn)

/-- The slots start-up has to retire (R185): the WRITTEN slots outside DIRTY pages that are no live version, one whose
check does not match its contents among them. -/
def Store.staleSlots (st : Store) : List Nat :=
  (st.cleanSlots.filter fun x => x.2 != .retired && !st.liveSlots.any fun y => y.1 == x.1).map (·.1)

/-- Reading the store after a device reset (R185): the slots that are no live versions are to be retired, and the sequence
counter is one above the highest number found, never lowered. -/
def Store.afterRead (st : Store) : Store :=
  { slots := st.slots
    dirty := st.dirty
    toRetire := st.staleSlots
    seq := st.liveSlots.foldl (fun q x => max q (x.2.2 + 1)) st.seq
    queue := []
    headPrevious := none
    compaction := none
    engine := none }

/-- Puts a permit record into the table, by rising permit number, replacing the record of its number. -/
def putPermit (p : Permit) : List Permit → List Permit
  | [] => [p]
  | q :: rest =>
    if q.defn.number.toNat < p.defn.number.toNat then q :: putPermit p rest
    else if q.defn.number = p.defn.number then p :: rest
    else p :: q :: rest

/-- The permit table rebuilt from the live versions, used-today 0, store pending no (R26, R185). -/
def Store.rebuildPermits (st : Store) : List Permit :=
  st.liveSlots.foldl (fun l x =>
    match x.2.1 with
    | .permit d ps => putPermit { defn := d, state := ps, used := 0, storePending := false } l
    | .room _ _ => l
    | .door _ _ => l) []

/-- The room table rebuilt from the live versions, with the values of R43. -/
def Store.rebuildRooms (st : Store) : Vector Room 16 :=
  st.liveSlots.foldl (fun v x =>
    match x.2.1 with
    | .room r settings => v.set r.val { Room.afterReset with settings := settings } r.isLt
    | .permit _ _ => v
    | .door _ _ => v) (.replicate 16 .afterReset)

/-- The door map rebuilt from the live versions; a door never stored is unmapped (R43). -/
def Store.rebuildDoors (st : Store) : Vector (Option DoorMapping) 32 :=
  st.liveSlots.foldl (fun v x =>
    match x.2.1 with
    | .door d m => v.set d.val m d.isLt
    | .permit _ _ => v
    | .room _ _ => v) (.replicate 32 none)

end Sys2Proof.Machine
end

