-- ==== Sys2Proof/Machine/Roster.lean ====
section
/-! DEFINITION. What ends, watches and links stays: charging (R102), removal and its effects (R100, R101), escort and
partner loss (R121 to R127), lone-worker watches (R95, R129 to R133), accounting and the return from MUSTER (R156,
R157). -/

namespace Sys2Proof.Machine

/-! ## Cover links (R119, R120) -/

/-- Makes a cover link: the contractor names the escort and stands last on its list (R119). -/
def State.addCover (s : State) (contractor escort : Credential) : State :=
  (s.updateRecord contractor fun x => { x with coveredBy := some escort }).updateRecord escort
    fun x => { x with covers := x.covers ++ [contractor] }

/-- Takes a contractor off every covered list, the contractors after it keeping their order (R100, R120). -/
def State.unlist (s : State) (contractor : Credential) : State :=
  { s with roster := s.roster.map fun x => { x with covers := x.covers.filter (· != contractor) } }

/-- A contractor released in an EVACUATING room: its covering escort absent, its uncovered mark set, nothing more (R124). -/
def State.markUncovered (s : State) (contractor : Credential) : State :=
  s.updateRecord contractor fun x => { x with coveredBy := none, uncovered := true }

/-- The ESCORT_LOSS journal record (R122, R123). -/
def escortLossRecord (o : Occupant) (lost reassigned : Option Credential) : JournalEntry :=
  { kind := .escortLoss, room := some o.room, cred := some o.cred, permit := some o.permit,
    detail := .escortLoss lost reassigned }

/-- One released contractor is handled (R121 to R124): reassigned to the oldest other escort with spare cover, or marked
uncovered and curtailed; in an EVACUATING room it is marked alone. A MUSTER room holds no cover link. -/
def State.escortLossOne (lost : Option Credential) (s : State) (contractor : Credential) : State :=
  match s.record? contractor with
  | none => s
  | some o =>
    match (s.room o.room).mode with
    | .evacuating => s.markUncovered contractor
    | .muster => s
    | .inService | .closed =>
      let t := s.updateRecord contractor fun x => { x with coveredBy := none }
      match t.newEscort lost o.room with
      | some e => (t.addCover contractor e.cred).write (escortLossRecord o lost (some e.cred))
      | none =>
        ((t.markUncovered contractor).write (escortLossRecord o lost none)).curtail .escortLoss 300 contractor

/-- Escort loss for each released contractor in the order given (R121). -/
def State.escortLoss (s : State) (lost : Option Credential) (released : List Credential) : State :=
  released.foldl (State.escortLossOne lost) s

/-- Partner loss of the record that remains (R127). -/
def State.partnerLoss (s : State) (removed : Credential) (o : Occupant) : State :=
  (s.write { kind := .partnerLoss, room := some o.room, cred := some o.cred, permit := some o.permit,
             detail := .partner removed }).curtail .partnerLoss 300 o.cred

/-! ## Watches -/

/-- Arms a record's CHECK entry C minutes on (R129). -/
def State.armCheck (s : State) (o : Occupant) : State :=
  s.arm (.check o.cred) (addTime s.now (60 * (s.room o.room).settings.checkInterval))

/-- The record has a CHECK entry in its WATCH slot. -/
def State.hasCheck (s : State) (c : Credential) : Bool := s.deadlines.any fun e => e.owner == .check c

/-- A record leaves ARRIVING for INSIDE: its ARRIVE entry goes, and its WATCH slot takes CHECK where it is alone in a
room with a check interval (R92, R94, R95). -/
def State.becomeInside (s : State) (o : Occupant) : State :=
  let t := (s.updateRecord o.cred fun x => { x with state := .inside }).cancel (.arrive o.cred)
  if t.presentCount o.room = 1 ∧ 0 < (t.room o.room).settings.checkInterval then t.armCheck o else t

/-- A record's lone alarm is cleared with LONE_RECOVERED in the journal and at every door of the room (R132, R133). -/
def State.loneRecovered (s : State) (o : Occupant) (company : Bool) : State :=
  ((s.updateRecord o.cred fun x => { x with loneAlarm := false }).write
    { kind := .loneRecovered, room := some o.room, cred := some o.cred, permit := some o.permit,
      detail := .recovered company }).notify o.room { kind := .loneRecovered, cred := some o.cred }

/-- A grant ends the solitude of a room's one earlier record: its CHECK entry goes, and a set lone alarm is cleared
(R130, R133). -/
def State.endSolitude (s : State) (earlier : List Occupant) : State :=
  match earlier with
  | [o] =>
    let t := s.cancel (.check o.cred)
    if o.loneAlarm then t.loneRecovered o true else t
  | _ => s

/-! ## Removal and charging -/

/-- The minutes a stay is charged when it ends (R102). -/
def chargeMinutes (o : Occupant) (tEnd : EstateTime) : Nat := minutesUp (tEnd - o.chargeStart)

/-- Minutes are charged to a permit; used-today saturates at the budget, or 1440 (R21, R102). -/
def State.charge (s : State) (n : PermitNo) (k : Nat) : State :=
  s.updatePermit n fun p => { p with used := min (budgetCap p.defn) (p.used + k) }

/-- Removes a record from the roster with its entries, and takes it off its covering escort's list (R100). -/
def State.removeRecord (s : State) (o : Occupant) : State :=
  (({ s with roster := s.roster.filter fun x => x.cred != o.cred } : State).cancelRecord o.cred).unlist o.cred

/-- Removal effects at orders b and c, for the one record that remains (R101, R127). -/
def State.lastOneEffects (s : State) (removed : Occupant) : State :=
  match s.inRoom removed.room with
  | [o] =>
    let t := if (s.room removed.room).settings.presence = .paired then s.partnerLoss removed.cred o else s
    if 0 < (t.room removed.room).settings.checkInterval ∧ o.state = .inside then t.armCheck o else t
  | _ => s

/-- The removal effects in the room of a removed record, in the room's mode (R101): escort loss, partner loss and a
check-in watch in an IN_SERVICE or CLOSED room; the marks of R124 in an EVACUATING one; none in MUSTER. -/
def State.removalEffects (s : State) (removed : Occupant) : State :=
  match (s.room removed.room).mode with
  | .muster => s
  | .evacuating => removed.covers.foldl State.markUncovered s
  | .inService | .closed => (s.escortLoss (some removed.cred) removed.covers).lastOneEffects removed

/-- A stay ends at now as an exit: removed, charged, journaled, answered, and the removal effects applied (R97, R154).
`entry` and `answer` are given the minutes charged. -/
def State.endStay (s : State) (o : Occupant) (entry : Nat → JournalEntry) (answer : Nat → State → State) : State :=
  let k := chargeMinutes o s.now
  (answer k (((s.removeRecord o).charge o.permit k).write (entry k))).removalEffects o

/-- A room in MUSTER whose last record is gone returns to its prior mode, with ROOM_MODE (MUSTER_CLEARED) and the notice
MUSTER_CLEARED at every door (R156). -/
def State.musterReturn (s : State) (r : RoomId) : State :=
  if (s.room r).mode = .muster ∧ s.presentCount r = 0 then
    ((s.setMode r (s.room r).prior).write
      { kind := .roomMode, room := some r, detail := .musterCleared .muster (s.room r).prior }).notify r
        { kind := .musterCleared }
  else s

/-- Accounts a record: removed, charged to `tEnd`, journaled ACCOUNTED, answered, and its room returned from MUSTER where
it was the last (R157). -/
def State.accountRecord (s : State) (o : Occupant) (tEnd : EstateTime) (door : Option Byte) (d : LeaveDetail)
    (source : Option Source) (answer : Nat → State → State) : State :=
  let k := chargeMinutes o tEnd
  (answer k (((s.removeRecord o).charge o.permit k).write
    { kind := .accounted, room := some o.room, door := door, cred := some o.cred, permit := some o.permit,
      detail := .account d source k })).musterReturn o.room

/-- The end of an accounted stay: the record's evacuation time (R102, R157). An UNACCOUNTED record always has one. -/
def accountedEnd (o : Occupant) : EstateTime := o.evacTime.getD 0

/-- Accounts every record of a room in roster order (R157, R162). -/
def State.accountAll (s : State) (source : Source) (records : List Occupant) : State :=
  records.foldl (fun t o => t.accountRecord o (accountedEnd o) none .roomClear (some source) fun _ u => u) s

/-- A record reported not to have passed the door is removed without charge, with GRANT_UNUSED, the removal effects of
its room, and the return from MUSTER where it was the last (R93, R155). -/
def State.removeUnused (s : State) (o : Occupant) : State :=
  (((s.removeRecord o).write
    { kind := .grantUnused, room := some o.room, door := some (doorByte o.entryDoor), cred := some o.cred,
      permit := some o.permit }).removalEffects o).musterReturn o.room

end Sys2Proof.Machine
end

