-- ==== Sys2Proof/Machine/Batches.lean ====
section
/-! DEFINITION. Permit batches: the transport of R174 to R176, and the table conditions, the application and the effects
on occupants of R15 to R20. -/

namespace Sys2Proof.Machine

/-! ## Opening and staging (R174) -/

/-- BATCH_OPEN: a declared count outside 1 to 256 is refused RANGE, a machine not IDLE refuses BUSY (R174). -/
def State.openBatch (s : State) (id count : Word16) : Answer :=
  if count.toNat < 1 ∨ 256 < count.toNat then s.refuse .range
  else if s.batch.phase ≠ .idle then s.refuse .busy
  else
    ({ s with batch := { Batch.idle with
        phase := .opened
        id := id
        declared := count.toNat
        check := 0x2F5E#16 } } : State).okay

/-- The definition a PERMIT payload carries, where it decodes and is well-formed (R3, R174, R187). -/
def stagedDefinition (payload : List Byte) : Option PermitDef := (decodePermit payload).filter PermitDef.wellFormed

/-- A record within the declared count: its ordinal, the running check, the range check and the staging (R174). -/
def Batch.stage (b : Batch) (payload : List Byte) : Batch :=
  { b with
    received := b.received + 1
    check := crc16 b.check payload
    kept := if stagedDefinition payload = none ∧ b.kept = none then some (.range, b.received + 1) else b.kept
    staging := b.staging ++ [stagedDefinition payload] }

/-- A PERMIT frame in OPEN: staged, or discarded beyond the declared count with the overrun flag (R174). -/
def Batch.take (b : Batch) (payload : List Byte) : Batch :=
  if b.received < b.declared then b.stage payload else { b with overrun := true }

/-- A taken PERMIT frame: answered REPLY STATE in IDLE or APPLYING, staged without a reply in OPEN (R174). -/
def State.takePermit (s : State) (tag : Byte) (payload : List Byte) : State :=
  if s.batch.phase = .opened then { s with batch := s.batch.take payload } else s.reply tag .state []

/-! ## The table conditions (R15) -/

/-- How many records of a table, but the one of this number, hold a credential. -/
def heldBut (table : List Permit) (c : Credential) (n : PermitNo) : Nat :=
  (table.filter fun p => p.defn.cred == c && p.defn.number != n).length

/-- The table condition a staged record fails first, in the order of R15. -/
def tableError (inUse : PermitNo → Bool) (table : List Permit) (d : PermitDef) : Option BatchError :=
  match table.find? fun p => p.defn.number == d.number with
  | none =>
    if Config.permitsMax ≤ table.length then some .full
    else if Config.permitsPerCredential < heldBut table d.cred d.number + 1 then some .credentialLimit
    else none
  | some p =>
    if Config.permitsPerCredential < heldBut table d.cred d.number + 1 then some .credentialLimit
    else if p.state = .revoked then some .revokedNumber
    else if inUse d.number ∧ d.cred ≠ p.defn.cred then some .credentialInUse
    else if inUse d.number ∧ d.kind ≠ p.defn.kind then some .kindInUse
    else none

/-- The record a staged definition makes in the table (R16, R17). -/
def replacePermit (p : Permit) (d : PermitDef) : Permit :=
  { defn := d, state := .active, used := min p.used (budgetCap d), storePending := true }

/-- A staged definition applied to the table (R16). -/
def applyDefinition (table : List Permit) (d : PermitDef) : List Permit :=
  match table.find? fun p => p.defn.number == d.number with
  | some _ => table.map fun p => if p.defn.number == d.number then replacePermit p d else p
  | none => putPermit { defn := d, state := .active, used := 0, storePending := true } table

/-- The first failure of the staged records against the table, each tested with those before it applied, and its
ordinal (R15). -/
def firstTableError (inUse : PermitNo → Bool) : Nat → List Permit → List PermitDef → Option (BatchError × Nat)
  | _, _, [] => none
  | ordinal, table, d :: rest =>
    match tableError inUse table d with
    | some e => some (e, ordinal)
    | none => firstTableError inUse (ordinal + 1) (applyDefinition table d) rest

/-- A permit is in use while the roster holds a record that refers to it (R5). -/
def State.inUse (s : State) (n : PermitNo) : Bool := (s.occupantOf? n).isSome

/-- The staged definitions: all of them where no record failed its range check. -/
def Batch.definitions (b : Batch) : List PermitDef := b.staging.filterMap fun x => x

/-- The failure that decides a close, in the order of R175, and the ordinal reported. -/
def State.batchFailure (s : State) (check : Word16) : Option (BatchError × Nat) :=
  match s.batch.kept with
  | some e => some e
  | none =>
    if s.batch.received < s.batch.declared then some (.short, s.batch.received + 1)
    else if s.batch.overrun then some (.overrun, s.batch.declared + 1)
    else if s.batch.check ≠ check then some (.sum, 0)
    else firstTableError s.inUse 1 s.permits s.batch.definitions

/-! ## Application (R16) and its effects on occupants (R18 to R20) -/

/-- The replacements a batch makes: the old definition, where there is one, and the new one, in staging order. -/
def replacements : List Permit → List PermitDef → List (Option PermitDef × PermitDef)
  | _, [] => []
  | table, d :: rest =>
    ((table.find? fun p => p.defn.number == d.number).map (·.defn), d) :: replacements (applyDefinition table d) rest

/-- R18: a room no longer named curtails the occupant record REVISED. -/
def State.reviseRooms (s : State) (d : PermitDef) (o : Occupant) : State :=
  if namesRoom d o.room then s else s.curtail .revised 600 o.cred

/-- A contractor's requirement has gone: its link is broken and its mark cleared (R19). -/
def State.freeOfCover (s : State) (c : Credential) : State :=
  (s.unlist c).updateRecord c fun x => { x with coveredBy := none, uncovered := false }

/-- R19: a changed escort requirement of a CONTRACTOR permit. -/
def State.reviseRequirement (s : State) (old d : PermitDef) (o : Occupant) : State :=
  if d.kind = .contractor ∧ o.state.isPresent = true then
    match old.requirement, d.requirement with
    | .noEscort, .escort => s.escortLoss none [o.cred]
    | .escort, .noEscort => s.freeOfCover o.cred
    | .noEscort, .noEscort => s
    | .escort, .escort => s
  else s

/-- R20: a cover limit lowered below the covered list cuts the list, and those cut off go through escort loss. -/
def State.reviseLimit (s : State) (d : PermitDef) (o : Occupant) : State :=
  match d.kind with
  | .contractor => s
  | .escort =>
    let limit := d.coverLimit.getD 0
    if limit < o.covers.length then
      (s.updateRecord o.cred fun x => { x with covers := x.covers.take limit }).escortLoss (some o.cred)
        (o.covers.drop limit)
    else s

/-- The effects of one applied record on the permit's occupant record, R18, R19 and R20 in this order (R16). Each reads
the record as the one before has left it. -/
def State.reviseOccupant (s : State) (x : Option PermitDef × PermitDef) : State :=
  match x.1 with
  | none => s
  | some old =>
    let each := fun (act : State → Occupant → State) (t : State) =>
      match t.occupantOf? x.2.number with
      | none => t
      | some o => act t o
    each (fun t o => t.reviseLimit x.2 o)
      (each (fun t o => t.reviseRequirement old x.2 o) (each (fun t o => t.reviseRooms x.2 o) s))

/-- The definition and state of a permit in the table after the batch, for its write. -/
def batchWrite (d : PermitDef) : WriteEntry := { job := .version (.permit d .active), fromBatch := true }

/-- The batch passes every check: the table changes at once, the writes enter the write queue as it has room,
PERMITS_APPLIED (BATCH) is written, then the effects on occupants follow (R16, R175). -/
def State.applyBatch (s : State) (tag : Byte) : State :=
  let defs := s.batch.definitions
  let t : State :=
    { s with
      permits := defs.foldl applyDefinition s.permits
      batch := { s.batch with
        phase := .applying
        staging := []
        closeTag := tag
        applied := defs.length
        remaining := defs.length
        unqueued := defs.map batchWrite } }
  (replacements s.permits defs).foldl State.reviseOccupant
    (t.refillQueue.engineNext.write { kind := .permitsApplied, detail := .applied .batch })

/-- The batch is rejected: BATCH_DONE REJECTED is made at once, and the machine returns to IDLE (R175). -/
def State.rejectBatch (s : State) (tag : Byte) (e : BatchError × Nat) : State :=
  { s with
    link := { s.link with replies := s.link.replies ++ [.batchDone tag s.batch.id (some e.1) e.2] }
    batch := .idle }

/-- A taken BATCH_CLOSE (R175). -/
def State.closeBatch (s : State) (tag : Byte) (check : Word16) : State :=
  if s.batch.phase = .opened then
    match s.batchFailure check with
    | some e => s.rejectBatch tag e
    | none => s.applyBatch tag
  else s.reply tag .state []

/-- BATCH_ABORT (R176). -/
def State.abortBatch (s : State) : Answer :=
  if s.batch.phase = .opened then ({ s with batch := .idle } : State).okay else s.refuse .state

/-! ## The commands -/

/-- BATCH_OPEN (R174). -/
def execBatchOpen (tag : Byte) (id count : Word16) (s : State) : Host.Outcome State Fault Refusal :=
  .next (s.takeCommand false tag (.batchOpen id count) fun t => t.openBatch id count)

/-- PERMIT (R174). -/
def execPermit (tag : Byte) (payload : List Byte) (s : State) : Host.Outcome State Fault Refusal :=
  .next (s.takeFrame false tag (some (.permit payload)) fun t => t.takePermit tag payload)

/-- BATCH_CLOSE (R175). -/
def execBatchClose (tag : Byte) (check : Word16) (s : State) : Host.Outcome State Fault Refusal :=
  .next (s.takeFrame false tag (some (.batchClose check)) fun t => t.closeBatch tag check)

/-- BATCH_ABORT (R176). -/
def execBatchAbort (tag : Byte) (s : State) : Host.Outcome State Fault Refusal :=
  .next (s.takeCommand false tag .batchAbort fun t => t.abortBatch)

end Sys2Proof.Machine
end

