-- ==== Sys2Proof/Machine/Evacuation.lean ====
section
/-! DEFINITION. The evacuation logic (R148 to R159): its start, the freezing of records, its end, and the test of its
three sources. -/

namespace Sys2Proof.Machine

/-- Freezes a record (R151): ARRIVING becomes INSIDE with arrival open, the evacuation time is set where absent, and its
STAY and WATCH entries are removed. -/
def State.freeze (s : State) (o : Occupant) : State :=
  (s.updateRecord o.cred fun x =>
    { x with
      state := if x.state = .arriving then .inside else x.state
      arrivalOpen := if x.state = .arriving then true else x.arrivalOpen
      evacTime := some (x.evacTime.getD s.now) }).cancelRecord o.cred

/-- One room in use at the start of an evacuation (R150, steps 1 to 4). -/
def State.evacuateRoom (s : State) (r : RoomId) : State :=
  let t := (s.setMode r .evacuating).endRoomPairings r .evac
  ((t.inRoom r).foldl State.freeze t).notify r { kind := .evacRelease }

/-- The rooms in use, in ascending order. -/
def State.roomsInUse (s : State) : List RoomId := allRooms.filter fun r => (s.room r).settings.inUse

/-- The start of an evacuation (R150). -/
def State.evacStart (s : State) (src : Source) : State :=
  let t : State := { s with evac := { s.evac with active := true } }
  (t.roomsInUse).foldl State.evacuateRoom
    (t.write { kind := .evacStart, detail := .evacStart src t.roster.length })

/-- A record of a room entering MUSTER (R156 step 1): INSIDE becomes UNACCOUNTED, its links and mark are cleared. -/
def musterRecord (x : Occupant) : Occupant :=
  { x with
    state := if x.state = .inside then .unaccounted else x.state
    coveredBy := none
    covers := []
    uncovered := false }

/-- One EVACUATING room at the end of an evacuation (R156, steps 1 to 3). -/
def State.endEvacuationRoom (s : State) (r : RoomId) : State :=
  let t :=
    if 0 < s.presentCount r then
      { s.setMode r .muster with roster := s.roster.map fun x => if x.room == r then musterRecord x else x }
    else s.setMode r (s.room r).prior
  t.notify r { kind := .evacEnd, detail := .mode (t.room r).mode }

/-- The EVACUATING rooms, in ascending order. -/
def State.evacuatingRooms (s : State) : List RoomId := allRooms.filter fun r => (s.room r).mode == .evacuating

/-- The end of an evacuation (R156). -/
def State.evacEnd (s : State) (src : Source) : State :=
  let t : State := { s with evac := { s.evac with active := false } }
  let entering := t.evacuatingRooms.filter fun r => decide (0 < t.presentCount r)
  (t.evacuatingRooms).foldl State.endEvacuationRoom
    (t.write { kind := .evacEnd,
               detail := .evacEnd src entering.length ((entering.map t.presentCount).foldl (· + ·) 0) })

/-- One of the three items calls for an evacuation (R148). -/
def Evac.called (e : Evac) : Bool := e.held == .active || e.hold || e.carryOver

/-- R148 applied at the instant one of the three items has changed: the evacuation starts, ends, or stays as it was. -/
def State.evacTest (s : State) (src : Source) : State :=
  if s.evac.called && !s.evac.active then s.evacStart src
  else if !s.evac.called && s.evac.active then s.evacEnd src
  else s

/-- R148 applied when the part becomes RUNNING after start-up (R159): where an evacuation is active, EVAC_START
(RESTORED) is written, every other room in use is taken, and the doors of rooms already EVACUATING receive EVAC_RELEASE
again. The rooms are gone through in one ascending pass, the two kinds of room in their places in it (DESIGN CHOICE, log
entry 52). -/
def State.evacRestore (s : State) : State :=
  if s.evac.called then
    let t : State := { s with evac := { s.evac with active := true } }
    (t.roomsInUse).foldl
      (fun u r =>
        if (u.room r).mode = .evacuating then u.notify r { kind := .evacRelease } else u.evacuateRoom r)
      (t.write { kind := .evacStart, detail := .evacStart .restored t.roster.length })
  else { s with evac := { s.evac with active := false } }

end Sys2Proof.Machine
end

