-- ==== Sys2Proof/Machine/Timing.lean ====
section
/-! DEFINITION. Estate time at work: the second's advance (R45), day-boundary processing and the purge (R22, R23, R53),
the shift of a first mark (R51), and the taking of due entries (R49, R115). -/

namespace Sys2Proof.Machine

/-! ## The day boundary -/

/-- A permit is due for purge: its window ended seven days ago or more and it is not in use (R23). -/
def State.duePurge (s : State) (p : Permit) : Bool :=
  decide (p.defn.windowEnd + 604800 ≤ s.now) && (s.occupantOf? p.defn.number).isNone

/-- Deletes one permit in the purge: its retirement is queued and PURGED is journaled (R23). -/
def State.purgeOne (s : State) (p : Permit) : State :=
  (({ s with permits := s.permits.filter fun q => q.defn.number != p.defn.number } : State).queueWrite
      (.retire (.permit p.defn.number))).write
    { kind := .purged, cred := some p.defn.cred, permit := some p.defn.number }

/-- Puts a permit into a list kept by rising number. -/
def insertByNumber (p : Permit) : List Permit → List Permit
  | [] => [p]
  | q :: rest =>
    if q.defn.number.toNat ≤ p.defn.number.toNat then q :: insertByNumber p rest else p :: q :: rest

/-- Permits by rising number: the purge deletes in this order (R23). -/
def byNumber (l : List Permit) : List Permit := l.foldr insertByNumber []

/-- The purge: due permits by rising number, as many as the write queue has free places at that instant (R23). -/
def State.purge (s : State) : State :=
  ((byNumber (s.permits.filter s.duePurge)).take s.writePlaces).foldl State.purgeOne s

/-- The DAY entry is armed from the budget day, replacing the old one; none is armed where its due time would be past the
last estate time (R52). -/
def State.armDay (s : State) : State :=
  match s.clock.budgetDay with
  | none => s.cancel .day
  | some d =>
    match dayDue d with
    | some t => s.arm .day t
    | none => s.cancel .day

/-- Every record's charge start that lies before the boundary moves forward to it (R103). -/
def State.moveChargeStarts (s : State) (boundary : EstateTime) : State :=
  { s with roster := s.roster.map fun o => { o with chargeStart := max o.chargeStart boundary } }

/-- Every permit's used-today becomes 0 (R22). -/
def State.zeroUsed (s : State) : State := { s with permits := s.permits.map fun p => { p with used := 0 } }

/-- Day-boundary processing (R53). -/
def State.dayBoundary (s : State) : State :=
  let t : State := { s with clock := { s.clock with budgetDay := some (dayOf s.now) } }
  ((t.zeroUsed.purge).moveChargeStarts (Config.daySeconds * dayOf t.now)).armDay

/-! ## Taking due entries -/

/-- A missed check (R131): CHECK is re-armed C minutes on; the lone alarm is set and journaled where it was clear; the
notice goes to every door of the room either way. -/
def State.checkMissed (s : State) (c : Credential) (due : EstateTime) : State :=
  match s.record? c with
  | none => s
  | some o =>
    let t := s.armCheck o
    let u :=
      if o.loneAlarm then t
      else
        (t.updateRecord c fun x => { x with loneAlarm := true }).write
          { kind := .loneAlarm, room := some o.room, cred := some c, permit := some o.permit, detail := .instant due }
    u.notify o.room { kind := .loneAlarm, cred := some c, time := due }

/-- An ARRIVE entry is taken: the person is presumed to have passed the door (R94). -/
def State.arrivePresumed (s : State) (c : Credential) : State :=
  match s.record? c with
  | none => s
  | some o => s.becomeInside o

/-- An entry taken off the queue is handed to its owner (R113). -/
def State.ownerActs (s : State) (e : Deadline) : State :=
  match e.owner with
  | .stay c => s.stayTaken c
  | .arrive c => s.arrivePresumed c
  | .check c => s.checkMissed c e.due
  | .pair d => s.endPairing .pairTimeout none d
  | .day => s.dayBoundary

/-- The head entry where it is due (R115). -/
def State.dueEntry (s : State) : Option Deadline :=
  match s.deadlines with
  | [] => none
  | e :: _ => if e.due ≤ s.now then some e else none

/-- The head entry is taken off the queue and its owner acts (R115). -/
def State.takeHead (s : State) (e : Deadline) : State :=
  ({ s with deadlines := s.deadlines.tail } : State).ownerActs e

/-- A run of takings: due entries in queue order, each acting before the next is taken (R115). The fuel is the length of
the queue: an owner arms only entries due after now, but for a clock held at the last estate time (log entry 7). -/
def State.runDue : Nat → State → State
  | 0, s => s
  | fuel + 1, s =>
    match s.dueEntry with
    | none => s
    | some e => (s.takeHead e).runDue fuel

/-- Takes every due entry (R49). -/
def State.takeDue (s : State) : State := s.runDue s.deadlines.length

/-- The change to LOST is owed: the elapsed count has reached its limit while SET (R47, R48). -/
def Clock.lostOwed (c : Clock) : Bool := c.status == .set && decide (Config.elapsedMax ≤ c.elapsed)

/-- Takes the head entry where it is due, is this owner's, and the part is RUNNING; nothing otherwise (R115). While the
second's change to LOST is owed no entry is taken, since the clock compares its count first (R45). -/
def State.takeOwned (s : State) (o : Owner) : State :=
  if s.part = .running ∧ s.clock.lostOwed = false then
    match s.dueEntry with
    | some e => if e.owner = o then s.takeHead e else s
    | none => s
  else s

/-! ## The clock -/

/-- The change to LOST, where it is owed (R48). -/
def State.becomeLost (s : State) : State :=
  if s.clock.lostOwed then
    ({ s with clock := { s.clock with status := .lost } } : State).write
      { kind := .clock, detail := .clockStatus .lost }
  else s

/-- The advance of one second: the value and the elapsed count, each held at its limit (R45). -/
def Clock.advance (c : Clock) : Clock :=
  { c with value := addTime c.value 1, elapsed := min (c.elapsed + 1) Config.elapsedMax }

/-- A held time shifted from `before` to `after`, held within 0 and 4,294,967,295 (R45, R51). -/
def shiftTime (before after t : Nat) : Nat :=
  if before ≤ after then addTime t (after - before) else t - (before - after)

/-- The held times of a record shifted (R51). -/
def shiftRecord (f : Nat → Nat) (o : Occupant) : Occupant :=
  { o with
    entryTime := f o.entryTime
    chargeStart := f o.chargeStart
    allowanceEnd := f o.allowanceEnd
    evacTime := o.evacTime.map f }

/-- A due time shifted: every kind but DAY, which is absent while the status is UNSET (R51). -/
def shiftDeadline (f : Nat → Nat) (e : Deadline) : Deadline :=
  match e.owner with
  | .day => e
  | _ => { e with due := f e.due }

/-- The presentation time of every pending pairing shifted (R51). -/
def shiftPairings (f : Nat → Nat) (v : Vector (Option Pairing) 32) : Vector (Option Pairing) 32 :=
  allDoors.foldl (fun u d => u.set d.val ((v.get d).map fun q => { q with time := f q.time }) d.isLt) v

/-- A first mark shifts every held time by the mark less the clock value before it (R51), an entry that is due and not yet
taken too (DEDUCED, log entry 53). -/
def State.shiftHeld (s : State) (mark : EstateTime) : State :=
  let f := shiftTime s.now mark
  { s with
    roster := s.roster.map (shiftRecord f)
    deadlines := s.deadlines.map (shiftDeadline f)
    pairings := shiftPairings f s.pairings }

/-- A time mark's effects, in the order of R50, steps 1 to 5. Where TIME comes before the due entries of its own second, a
shifted entry is due at the mark or before it and is taken in step 5 (DEDUCED, log entry 53). -/
def State.takeMark (s : State) (mark : EstateTime) : State :=
  let t := if s.clock.status = .unset then s.shiftHeld mark else s
  let u : State := { t with clock := { t.clock with value := mark, elapsed := 0, status := .set } }
  let v := if s.clock.status = .set then u
    else u.write { kind := .clock, detail := .clockSet s.now mark }
  let w := if v.clock.budgetDay = none then v.dayBoundary else v
  w.takeDue

end Sys2Proof.Machine
end

