-- ==== Sys2Proof/Machine/ClockEvents.lean ====
section
/-! DEFINITION. The clock's own events (R45, R48) and the taking of due entries (R49, R115). -/

namespace Sys2Proof.Machine

/-- What is left of the present second (R45): the change to LOST, then, while RUNNING, the due entries. -/
def State.finishSecond (s : State) : State :=
  if s.part = .running then s.becomeLost.takeDue else s.becomeLost

/-- The clock takes its new value and advances its elapsed count (R45). -/
def State.advanceClock (s : State) : State := { s with clock := s.clock.advance }

/-- CLOCK_SECOND (R45): what the last second still owes is done, then the clock advances. The change to LOST and the due
entries of the new second are the commands CLOCK_LOST, STAY_ENTRY and so on, in this order (an entry has no effect while
the change is owed), or the next CLOCK_SECOND does them, so that another command of the same second may come before or
after them (R45, R115). -/
def execClockSecond (s : State) : Host.Outcome State Fault Refusal := .next s.finishSecond.advanceClock

/-- CLOCK_LOST (R48). -/
def execClockLost (s : State) : Host.Outcome State Fault Refusal := .next s.becomeLost

/-- STAY_ENTRY (R106). -/
def execStayEntry (c : Credential) (s : State) : Host.Outcome State Fault Refusal := .next (s.takeOwned (.stay c))

/-- ARRIVE_ENTRY (R94). -/
def execArriveEntry (c : Credential) (s : State) : Host.Outcome State Fault Refusal := .next (s.takeOwned (.arrive c))

/-- CHECK_ENTRY (R131). -/
def execCheckEntry (c : Credential) (s : State) : Host.Outcome State Fault Refusal := .next (s.takeOwned (.check c))

/-- PAIR_ENTRY (R87). -/
def execPairEntry (d : DoorId) (s : State) : Host.Outcome State Fault Refusal := .next (s.takeOwned (.pair d))

/-- DAY_ENTRY (R53). -/
def execDayEntry (s : State) : Host.Outcome State Fault Refusal := .next (s.takeOwned .day)

end Sys2Proof.Machine
end

