-- ==== Sys2Proof/Machine/Admission.lean ====
section
/-! DEFINITION. The decision of IN presentations: the ordered steps of R60, permit selection (R68 to R72), grants (R77 to
R80), and pending pairings with their pair test (R81 to R86). -/

namespace Sys2Proof.Machine

/-! ## Permit selection -/

/-- The outcome of the per-permit checks (R69): the allowance of an admissible permit, or the check it stopped at and
that check's failure. -/
inductive PermitCheck where
  | admissible (allowance : Nat)
  | fails (check : Nat) (reason : Reason)
  deriving DecidableEq, Repr

/-- The per-permit checks, in their order (R69). -/
def checkPermit (c : Clock) (maxStay : Nat) (p : Permit) : PermitCheck :=
  let d := p.defn
  let a := entryAllowance d c.status c.elapsed c.value p.used maxStay
  if p.state = .suspended then .fails 1 .suspended
  else if p.state = .revoked then .fails 1 .revoked
  else if d.kind = .contractor ∧ c.status ≠ .set then .fails 2 .clock
  else if !(passesUntimed d c.status || insideWindow d (permitMargin d c.elapsed) c.value) then .fails 3 .outsideWindow
  else if budgetSpent d p.used then .fails 4 .budget
  else if a < 300 then .fails 5 .shortStay
  else .admissible a
where
  /-- The permit has a daily budget and less than one minute of it is left (R69, check 4). -/
  budgetSpent (d : PermitDef) (used : Nat) : Bool :=
    match d.budget with
    | none => false
    | some b => decide (b < used + 1)

/-- What selection gives: the chosen permit with its allowance, or a reason and the permit it comes from (R72). -/
inductive Selection where
  | chosen (p : Permit) (allowance : Nat)
  | refused (reason : Reason) (permit : Option PermitNo)
  deriving DecidableEq, Repr

/-- The permit of the lower number comes first among equals (R72). -/
def lowerNumber (p q : Permit) : Bool := decide (p.defn.number.toNat < q.defn.number.toNat)

/-- Of two candidates with their outcomes, the one that decides (R72): an admissible one before any failure, the larger
allowance, the further check, and the lower number among equals. -/
def betterCandidate (x y : Permit × PermitCheck) : Permit × PermitCheck :=
  match x.2, y.2 with
  | .admissible a, .admissible b =>
    if a < b then y else if b < a then x else if lowerNumber y.1 x.1 then y else x
  | .admissible _, .fails _ _ => x
  | .fails _ _, .admissible _ => y
  | .fails i _, .fails j _ =>
    if i < j then y else if j < i then x else if lowerNumber y.1 x.1 then y else x

/-- The permits of a credential (R65). -/
def State.permitsOf (s : State) (c : Credential) : List Permit := s.permits.filter fun p => p.defn.cred == c

/-- The candidates of a presentation: the credential's permits that name the room (R68). -/
def State.candidates (s : State) (r : RoomId) (c : Credential) : List Permit :=
  (s.permitsOf c).filter fun p => namesRoom p.defn r

/-- Permit selection (step 8; R68, R72). -/
def State.selectPermit (s : State) (r : RoomId) (c : Credential) : Selection :=
  match (s.candidates r c).map fun p => (p, checkPermit s.clock (s.room r).settings.maxStay p) with
  | [] => .refused .notPermitted none
  | x :: rest =>
    match rest.foldl betterCandidate x with
    | (p, .admissible a) => .chosen p a
    | (p, .fails _ reason) => .refused reason (some p.defn.number)

/-- Steps 6 and 8 to 11 for a credential at a room (R60, R84): the chosen permit, or the refusal. -/
def State.decidePerson (s : State) (r : RoomId) (c : Credential) : Selection :=
  if s.permitsOf c = [] then .refused .unknownCredential none
  else
    match s.selectPermit r c with
    | .refused reason n => .refused reason n
    | .chosen p a =>
      if p.defn.kind = .contractor ∧ Config.journalGuard ≤ s.journal.length then .refused .journalFull none
      else if p.defn.kind = .contractor ∧ (s.room r).doorAlarm = true then .refused .doorAlarm none
      else if (s.room r).settings.isolationRequired = true ∧ s.isolation r ≠ .confirmed then .refused .isolation none
      else .chosen p a

/-! ## Answers -/

/-- A presentation is refused: the decision in the port's queue and the REFUSE record (R59). -/
def State.refusePresentation (s : State) (p : PortId) (door : Byte) (room : Option RoomId) (c : Credential)
    (reason : Reason) (permit : Option PermitNo) : State :=
  (s.place p (.decision door c (.refuse reason))).write
    { kind := .refuse, room := room, door := some door, cred := some c, permit := permit,
      detail := .refusal reason none }

/-- The GRANT answer (R59, R78): the allowance in minutes, and SHORT where it is exactly 5 minutes. -/
def State.answerGrant (s : State) (p : PortId) (d : DoorId) (c : Credential) (allowance : Nat) : State :=
  s.place p (.decision (doorByte d) c (.grant (allowance / 60) (decide (allowance = 300))))

/-- The GRANT journal record (R59). -/
def State.journalGrant (s : State) (r : RoomId) (d : DoorId) (c : Credential) (n : PermitNo) (allowance : Nat) : State :=
  s.write { kind := .grant, room := some r, door := some (doorByte d), cred := some c, permit := some n,
            detail := .minutes (allowance / 60) }

/-! ## Grants -/

/-- The record a grant creates (R77). -/
def newOccupant (c : Credential) (n : PermitNo) (r : RoomId) (d : DoorId) (now allowance : Nat) : Occupant :=
  { cred := c
    permit := n
    room := r
    entryDoor := d
    state := .arriving
    entryTime := now
    chargeStart := now
    allowanceEnd := addTime now allowance
    stage := if 300 < allowance then .within else .due
    loneAlarm := false
    uncovered := false
    coveredBy := none
    covers := []
    evacTime := none
    arrivalOpen := false }

/-- The record is created, the youngest of its room (R77). -/
def State.addOccupant (s : State) (o : Occupant) : State := { s with roster := s.roster ++ [o] }

/-- The deadlines of a grant: ARRIVE 30 s on, STAY at the next boundary (R78). -/
def State.armGrant (s : State) (c : Credential) : State :=
  (s.arm (.arrive c) (addTime s.now 30)).rearmStay c

/-- A contractor needing an escort is linked to the oldest escort with spare cover in the room (R79). -/
def State.coverByRoom (s : State) (r : RoomId) (c : Credential) : State :=
  match s.oldestEscort r with
  | some e => s.addCover c e.cred
  | none => s

/-- An escort adopts one uncovered contractor while it has spare cover (R80). -/
def State.adoptOne (escort : Credential) (s : State) (o : Occupant) : State :=
  match s.record? escort with
  | none => s
  | some e =>
    if 0 < s.spareCover e then
      (s.addCover o.cred escort).updateRecord o.cred fun x => { x with uncovered := false }
    else s

/-- A granted escort adopts the room's uncovered contractors, oldest first (R80). -/
def State.adopt (s : State) (r : RoomId) (escort : Credential) : State :=
  ((s.inRoom r).filter fun o => o.uncovered).foldl (State.adoptOne escort) s

/-- The cover of one person granted alone (R79, R80). -/
def State.coverAlone (s : State) (r : RoomId) (c : Credential) (p : Permit) : State :=
  match p.defn.kind with
  | .escort => s.adopt r c
  | .contractor => if requiresEscort p.defn then s.coverByRoom r c else s

/-- A presentation is granted (R77), its effects in the order of the rule. -/
def State.grantAlone (s : State) (port : PortId) (r : RoomId) (d : DoorId) (c : Credential) (p : Permit)
    (allowance : Nat) : State :=
  let earlier := s.inRoom r
  ((((s.addOccupant (newOccupant c p.defn.number r d s.now allowance)).coverAlone r c p).armGrant c
    |>.answerGrant port d c allowance).journalGrant r d c p.defn.number allowance).endSolitude earlier

/-- The cover of one of a pair (R86 step 1): by the escort of the pair where the other is one, else by the oldest escort
with spare cover in the room. -/
def State.coverInPair (s : State) (r : RoomId) (c : Credential) (p : Permit) (other : Credential) (q : Permit) : State :=
  if requiresEscort p.defn then
    match q.defn.kind with
    | .escort => s.addCover c other
    | .contractor => s.coverByRoom r c
  else s

/-- The escort of a pair adopts with the spare cover it has left (R86 step 2). -/
def State.adoptInPair (s : State) (r : RoomId) (c : Credential) (p : Permit) : State :=
  match p.defn.kind with
  | .escort => s.adopt r c
  | .contractor => s

/-- A pair is granted (R86): the first presenter `c1` and the second `c2`, with their chosen permits and allowances. Where
both are escorts the first adopts before the second (DESIGN CHOICE, log entry 54). -/
def State.grantPair (s : State) (port : PortId) (r : RoomId) (d : DoorId) (c1 : Credential) (p1 : Permit) (a1 : Nat)
    (c2 : Credential) (p2 : Permit) (a2 : Nat) : State :=
  let t := s.clearPairing d
  let earlier := t.inRoom r
  let made := ((t.addOccupant (newOccupant c1 p1.defn.number r d t.now a1)).addOccupant
    (newOccupant c2 p2.defn.number r d t.now a2))
  let covered := (((made.coverInPair r c1 p1 c2 p2).coverInPair r c2 p2 c1 p1).adoptInPair r c1 p1).adoptInPair r c2 p2
  (((((covered.armGrant c1).armGrant c2).answerGrant port d c1 a1).answerGrant port d c2 a2).journalGrant
      r d c1 p1.defn.number a1 |>.journalGrant r d c2 p2.defn.number a2).endSolitude earlier

/-! ## Needs and pending pairings -/

/-- A presentation's needs (R76). -/
def State.needOf (s : State) (r : RoomId) (p : Permit) : Need :=
  { escort := requiresEscort p.defn && (s.oldestEscort r).isNone
    partner := (s.room r).settings.presence == .paired && s.presentCount r == 0 }

/-- Fills a door's slot and arms its PAIR entry 30 s on (R82). -/
def State.fillPairing (s : State) (d : DoorId) (c : Credential) (need : Need) : State :=
  (s.setPairing d (some { cred := c, need := need, time := s.now })).arm (.pair d) (addTime s.now 30)

/-- Step 14 at an empty slot: PENDING with a need, else the grant (R76, R82). -/
def State.aloneAtDoor (s : State) (port : PortId) (r : RoomId) (d : DoorId) (c : Credential) (p : Permit)
    (allowance : Nat) : State :=
  let need := s.needOf r p
  if need.escort || need.partner then
    (s.fillPairing d c need).place port (.decision (doorByte d) c (.pending need))
  else s.grantAlone port r d c p allowance

/-- The spare cover of a room's escorts together. -/
def State.roomSpare (s : State) (r : RoomId) : Nat := ((s.inRoom r).map s.spareCover).foldl (· + ·) 0

/-- Each of two presenters that needs an escort can be covered as R86 would cover it (R85, condition 3). -/
def State.pairCovered (s : State) (r : RoomId) (p1 p2 : Permit) : Bool :=
  let needing := (if requiresEscort p1.defn then 1 else 0) + (if requiresEscort p2.defn then 1 else 0)
  p1.defn.kind == .escort || p2.defn.kind == .escort || decide (needing ≤ s.roomSpare r)

/-- The joint test of two presenters: the first failed condition's reason (R85). -/
def State.jointTest (s : State) (r : RoomId) (p1 p2 : Permit) : Option Reason :=
  if (s.room r).settings.maxOccupancy < s.presentCount r + 2 then some .roomFull
  else if Config.rosterMax < s.roster.length + 2 then some .rosterFull
  else if s.pairCovered r p1 p2 then none
  else some .pairMismatch

/-- Step 14 (R76): the pair test where the door's slot holds a first presenter (R84, R85), else the presenter alone. -/
def State.admissionNeeds (s : State) (port : PortId) (r : RoomId) (d : DoorId) (c : Credential) (p : Permit)
    (allowance : Nat) : State :=
  match s.pairing d with
  | none => s.aloneAtDoor port r d c p allowance
  | some q =>
    match s.decidePerson r q.cred with
    | .refused reason n => (s.endPairing reason n d).aloneAtDoor port r d c p allowance
    | .chosen p1 a1 =>
      match s.jointTest r p1 p with
      | some reason => s.refusePresentation port (doorByte d) (some r) c reason none
      | none => s.grantPair port r d q.cred p1 a1 c p allowance

/-! ## The ordered steps -/

/-- What a second presentation refused before step 14 makes of a first presenter's slot: it is left as it was (R83). Where
both are refused ISOLATION now, R141 has the first receive its REFUSE ISOLATION; the two rules cannot both hold there, and
`ends` says which does, a free value (DESIGN CHOICE, log entry 57). -/
def State.firstAtRefusal (s : State) (ends : Bool) (r : RoomId) (d : DoorId) (reason : Reason) : State :=
  match s.pairing d with
  | none => s
  | some q =>
    if reason = .isolation ∧ s.decidePerson r q.cred = .refused .isolation none ∧ ends = true then
      s.endPairing .isolation none d
    else s

/-- Steps 8 to 14 (R60). -/
def State.admissionSelect (s : State) (port : PortId) (r : RoomId) (d : DoorId) (c : Credential) : State :=
  match s.decidePerson r c with
  | .refused reason n =>
    (s.firstAtRefusal Config.isolationEndsPairing r d reason).refusePresentation port (doorByte d) (some r) c reason n
  | .chosen p a =>
    if (s.room r).settings.maxOccupancy ≤ s.presentCount r then
      s.refusePresentation port (doorByte d) (some r) c .roomFull none
    else if Config.rosterMax ≤ s.roster.length then
      s.refusePresentation port (doorByte d) (some r) c .rosterFull none
    else s.admissionNeeds port r d c p a

/-- A stay ended as a re-entry: an exit at now with the detail REENTRY and no EXIT_RESULT (R67). -/
def State.reentry (s : State) (d : DoorId) (o : Occupant) : State :=
  s.endStay o
    (fun k => { kind := .exit, room := some o.room, door := some (doorByte d), cred := some o.cred,
                permit := some o.permit, detail := .leave .reentry k })
    (fun _ t => t)

/-- Steps 6 and 7 (R65, R66, R67), then the rest. -/
def State.admissionKnown (s : State) (port : PortId) (r : RoomId) (d : DoorId) (c : Credential) : State :=
  if s.permitsOf c = [] then s.refusePresentation port (doorByte d) (some r) c .unknownCredential none
  else
    match s.record? c with
    | none => s.admissionSelect port r d c
    | some o =>
      if o.room = r then (s.reentry d o).admissionSelect port r d c
      else s.refusePresentation port (doorByte d) (some r) c .passback none

/-- Step 5 (R64), then the rest. -/
def State.admissionPaired (s : State) (port : PortId) (r : RoomId) (d : DoorId) (c : Credential) : State :=
  if s.pairingDoor c = some d then s.refusePresentation port (doorByte d) (some r) c .duplicate none
  else (s.cancelPairingOf c).admissionKnown port r d c

/-- Steps 3 and 4 (R63), then the rest. -/
def State.admissionMode (s : State) (port : PortId) (r : RoomId) (d : DoorId) (c : Credential) : State :=
  match (s.room r).mode with
  | .evacuating => s.refusePresentation port (doorByte d) (some r) c .evac none
  | .muster => s.refusePresentation port (doorByte d) (some r) c .muster none
  | .closed => s.refusePresentation port (doorByte d) (some r) c .closed none
  | .inService => s.admissionPaired port r d c

/-- Step 2: an UNACCOUNTED record of the credential, in any room, is accounted with the detail PRESENTATION (R62). -/
def State.accountPresenter (s : State) (d : DoorId) (c : Credential) : State :=
  match s.record? c with
  | none => s
  | some o =>
    if o.state = .unaccounted then
      s.accountRecord o (accountedEnd o) (some (doorByte d)) .presentation none fun _ t => t
    else s

/-- The door a request names where it is mapped to this port, and the room it leads to (R164). -/
def State.mappedDoor (s : State) (port : PortId) (door : Byte) : Option (DoorId × RoomId) :=
  match doorOfNat door.toNat with
  | none => none
  | some d =>
    match s.door d with
    | none => none
    | some m => if m.port = port then some (d, m.room) else none

/-- The room a door number is mapped to, whatever its port (R61). -/
def State.roomOfDoor (s : State) (door : Byte) : Option RoomId :=
  match doorOfNat door.toNat with
  | none => none
  | some d => (s.door d).map (·.room)

/-- An IN presentation is decided (R60): step 1 (R61), then the rest. -/
def State.admission (s : State) (port : PortId) (door : Byte) (c : Credential) : State :=
  match s.mappedDoor port door with
  | none => s.refusePresentation port door (s.roomOfDoor door) c .unknownDoor none
  | some (d, r) =>
    if (s.room r).settings.inUse then (s.accountPresenter d c).admissionMode port r d c
    else s.refusePresentation port door (s.roomOfDoor door) c .unknownDoor none

end Sys2Proof.Machine
end

