-- ==== Sys2Proof/Machine/Formats.lean ====
section
/-! DEFINITION. The bytes the part sends: the codes of names (R187), the items and the status byte of the door ports
(13.2), permit and settings payloads, reply fields (R188), journal records (R189) and muster answers (13.5). -/

namespace Sys2Proof.Machine

/-! ## Codes of names (R187) -/

/-- Codes of the refusal reasons. -/
def Reason.code : Reason → Nat
  | .unknownDoor => 1
  | .evac => 2
  | .muster => 3
  | .closed => 4
  | .duplicate => 5
  | .unknownCredential => 6
  | .passback => 7
  | .notPermitted => 8
  | .suspended => 9
  | .revoked => 10
  | .clock => 11
  | .outsideWindow => 12
  | .budget => 13
  | .shortStay => 14
  | .journalFull => 15
  | .doorAlarm => 16
  | .isolation => 17
  | .roomFull => 18
  | .rosterFull => 19
  | .pairMismatch => 20
  | .pairCancelled => 21
  | .pairTimeout => 22

/-- Codes of the journal kinds. -/
def JournalKind.code : JournalKind → Nat
  | .start => 1
  | .grant => 2
  | .refuse => 3
  | .exit => 4
  | .exitUnknown => 5
  | .grantUnused => 6
  | .stayOver => 7
  | .stayAlarm => 8
  | .loneAlarm => 9
  | .loneRecovered => 10
  | .curtailed => 11
  | .extended => 12
  | .escortLoss => 13
  | .partnerLoss => 14
  | .released => 15
  | .accounted => 16
  | .doorForced => 17
  | .doorHeld => 18
  | .doorRestored => 19
  | .isolationChange => 20
  | .isolationLost => 21
  | .evacStart => 22
  | .evacEnd => 23
  | .roomMode => 24
  | .clock => 25
  | .permitsApplied => 26
  | .purged => 27
  | .linkUp => 28
  | .linkDown => 29
  | .rosterLost => 30
  | .snapshotSkipped => 31

/-- Codes of the modes and prior modes. -/
def Mode.code : Mode → Nat
  | .inService => 1
  | .closed => 2
  | .evacuating => 3
  | .muster => 4

/-- Codes of the occupant record states. -/
def OccState.code : OccState → Nat
  | .arriving => 1
  | .inside => 2
  | .unaccounted => 3

/-- Codes of the stages. -/
def Stage.code : Stage → Nat
  | .within => 1
  | .due => 2
  | .overstay => 3
  | .alarm => 4

/-- Codes of the isolation states. -/
def IsolationState.code : IsolationState → Nat
  | .notRequired => 1
  | .unknown => 2
  | .confirmed => 3
  | .notConfirmed => 4
  | .fault => 5

/-- Codes of the held classes. -/
def HeldClass.code : HeldClass → Nat
  | .unknown => 1
  | .short => 2
  | .active => 3
  | .inactive => 4
  | .openLoop => 5

/-- Codes of the permit kinds. -/
def kindCode : PermitKind → Nat
  | .contractor => 1
  | .escort => 2

/-- Codes of the escort requirements. -/
def requirementCode : Sys2Proof.EscortReq → Nat
  | .noEscort => 1
  | .escort => 2

/-- Codes of the permit states. -/
def PermitState.code : PermitState → Nat
  | .active => 1
  | .suspended => 2
  | .revoked => 3

/-- Codes of the clock statuses. -/
def ClockStatus.code : ClockStatus → Nat
  | .unset => 1
  | .set => 2
  | .lost => 3

/-- Codes of the curtail reasons. -/
def CurtailReason.code : CurtailReason → Nat
  | .revoked => 1
  | .revised => 2
  | .escortLoss => 3
  | .partnerLoss => 4
  | .closure => 5

/-- Codes of the details of EXIT and ACCOUNTED records. -/
def LeaveDetail.code : LeaveDetail → Nat
  | .out => 1
  | .reentry => 2
  | .evac => 3
  | .presentation => 4
  | .estate => 5
  | .roomClear => 6
  | .inside => 7

/-- Codes of the sources. -/
def Source.code : Source → Nat
  | .line => 1
  | .estate => 2
  | .restored => 3
  | .panel => 4
  | .door => 5

/-- Codes of the details of PERMITS_APPLIED records. -/
def AppliedDetail.code : AppliedDetail → Nat
  | .suspend => 1
  | .resume => 2
  | .revoke => 3
  | .remove => 4
  | .batch => 5
  | .roomSet => 6

/-- Codes of the details of ROOM_MODE records. -/
def ModeDetail.code : ModeDetail → Nat
  | .opened => 1
  | .closed => 2
  | .closeClear => 3
  | .musterCleared => 5

/-- Codes of the reset causes. -/
def causeCode : Sys2Proof.ResetCause → Nat
  | .powerOn => 1
  | .lowVoltage => 2
  | .resetPin => 3

/-- Codes of the EVAC levels. -/
def EvacLevel.code : EvacLevel → Nat
  | .active => 1
  | .inactive => 2

/-- Codes of the batch states. -/
def BatchPhase.code : BatchPhase → Nat
  | .idle => 1
  | .opened => 2
  | .applying => 3

/-- Codes of the reply results. -/
def ReplyResult.code : ReplyResult → Nat
  | .ok => 0
  | .busy => 1
  | .range => 2
  | .unknownPermit => 3
  | .unknownRoom => 4
  | .unknownCredential => 5
  | .state => 6
  | .clock => 7
  | .noGain => 8
  | .outsideWindow => 9

/-- The numbers of the errors of a BATCH_DONE (13.3). -/
def BatchError.code : BatchError → Nat
  | .range => 1
  | .linkCrc => 2
  | .short => 3
  | .overrun => 4
  | .sum => 5
  | .full => 6
  | .credentialLimit => 7
  | .revokedNumber => 8
  | .credentialInUse => 9
  | .kindInUse => 10

/-- The numbers of the notices, in the order of the table of R165 (13.2). -/
def NoticeKind.code : NoticeKind → Nat
  | .stayDue => 1
  | .stayOver => 2
  | .stayAlarm => 3
  | .curtailed => 4
  | .loneAlarm => 5
  | .loneRecovered => 6
  | .isolationLost => 7
  | .isolationRestored => 8
  | .evacRelease => 9
  | .evacEnd => 10
  | .musterCleared => 11

/-- Codes of the outcomes of a port's request exchange (13.2). -/
def PortOutcome.code : PortOutcome → Nat
  | .taken => 1
  | .notTakenFull => 2
  | .badFrame => 3
  | .starting => 4
  | .lowPower => 5

/-- Codes of the results of EXIT_RESULT items (13.2). -/
def ExitResult.code : ExitResult → Nat
  | .exited => 1
  | .exitUnknown => 2
  | .unknownDoor => 3

/-- Codes of the results of CHECK_RESULT items (13.2). -/
def CheckResult.code : CheckResult → Nat
  | .accepted => 1
  | .notExpected => 2
  | .unknownDoor => 3

/-- Codes of an IN presentation's answers (13.2). -/
def Decision.code : Decision → Nat
  | .grant _ _ => 1
  | .pending _ => 2
  | .refuse _ => 3

/-- A need as one byte: bit 0 ESCORT_NEEDED, bit 1 PARTNER_NEEDED (R187). -/
def Need.code (n : Need) : Nat := (if n.escort then 1 else 0) + (if n.partner then 2 else 0)

/-- An item of two values: 1 for set, raised or yes (R187). -/
def flagCode (b : Bool) : Nat := if b then 1 else 0

/-! ## Fields -/

/-- A code or a small number as one byte. -/
def one (n : Nat) : Byte := BitVec.ofNat 8 n

/-- A number in `n` bytes, held at the most they carry. -/
def field (n v : Nat) : List Byte := be n (min v (256 ^ n - 1))

/-- A credential in five bytes (R187). -/
def credBytes (c : Credential) : List Byte := be 5 c.toNat

/-- A credential that may be absent: five bytes of 0 (R187, R188). -/
def credBytes? (c : Option Credential) : List Byte := be 5 (c.elim 0 (·.toNat))

/-- Bytes of 0. -/
def zeros (n : Nat) : List Byte := List.replicate n 0

/-! ## Outbound items (13.2) -/

/-- An item's kind, door and credential: bytes 0 to 6. -/
def Item.head : Item → List Byte
  | .decision door c _ => one 1 :: door :: credBytes c
  | .exitResult door c _ _ => one 2 :: door :: credBytes c
  | .checkResult door c _ _ => one 3 :: door :: credBytes c
  | .notice d _ n => one 4 :: one d.val :: credBytes? n.cred

/-- The argument of a decision: the allowance in minutes, the need or the reason. -/
def Decision.argument : Decision → Nat
  | .grant m _ => m
  | .pending n => n.code
  | .refuse r => r.code

/-- The flags of a decision: bit 0 SHORT. -/
def Decision.flags : Decision → Nat
  | .grant _ short => flagCode short
  | .pending _ => 0
  | .refuse _ => 0

/-- The detail byte of a notice. -/
def NoticeDetail.code : NoticeDetail → Nat
  | .none => 0
  | .reason r => r.code
  | .isolation st => st.code
  | .mode m => m.code

/-- Bytes 7 to 14 of an item. -/
def Item.tail : Item → List Byte
  | .decision _ _ d => one d.code :: (field 2 d.argument ++ one d.flags :: zeros 4)
  | .exitResult _ _ r k => one r.code :: (field 4 k ++ zeros 3)
  | .checkResult _ _ r t => one r.code :: (field 4 t ++ zeros 3)
  | .notice _ room n => one n.kind.code :: one room.val :: (field 4 n.time ++ [one n.detail.code, 0])

/-- The 16 bytes of an item, the CRC-8 of the others last (13.2). -/
def Item.bytes (i : Item) : List Byte := i.head ++ i.tail ++ [crc8 (i.head ++ i.tail)]

/-- The empty-item marker (13.2). -/
def emptyMarker : List Byte := zeros 16

/-- The outcome field of a port's status byte: the part's state hides the held outcome (R163). -/
def State.outcomeField (s : State) (p : PortId) : PortOutcome :=
  match s.part with
  | .starting => .starting
  | .lowPower => .lowPower
  | .running => (s.port p).outcome

/-- The status byte a port shifts out first in an exchange: the outcome in bits 2 to 0, items waiting in bit 7 (R163,
13.2). -/
def State.statusByte (s : State) (p : PortId) : Byte :=
  one ((s.outcomeField p).code + 128 * flagCode (s.attn p))

/-! ## Definitions and settings (13.3) -/

/-- The presence byte of a permit definition. -/
def presenceCode (d : PermitDef) : Nat :=
  flagCode d.weekdays.isSome + 2 * flagCode d.hours.isSome + 4 * flagCode d.budget.isSome +
    8 * flagCode d.coverLimit.isSome

/-- The 32 bytes of a PERMIT payload (13.3). -/
def encodePermit (d : PermitDef) : List Byte :=
  be 4 d.number.toNat ++ be 5 d.cred.toNat ++
  [one (kindCode d.kind), one (requirementCode d.requirement)] ++ be 2 d.rooms.toNat ++
  be 4 d.windowStart ++ be 4 d.windowEnd ++
  [one (presenceCode d), one (d.weekdays.elim 0 (·.toNat))] ++
  be 3 (d.hours.elim 0 (·.1)) ++ be 3 (d.hours.elim 0 (·.2)) ++
  be 2 (d.budget.getD 0) ++ [one (d.coverLimit.getD 0)]

/-- The settings flags byte of a ROOM_SET payload. -/
def settingsFlags (st : RoomSettings) : Nat :=
  flagCode st.inUse + 2 * flagCode st.isolationRequired + 4 * flagCode (st.presence == .paired) +
    8 * flagCode (st.events == .faults)

/-- The seven bytes of a ROOM_SET payload (13.3). -/
def encodeSettings (room : Nat) (st : RoomSettings) : List Byte :=
  [one room, one (settingsFlags st)] ++ field 1 st.maxOccupancy ++ field 2 st.maxStay ++
    field 1 st.checkInterval ++ field 1 st.grace

/-! ## Reply fields (R188) -/

/-- The items of one channel in the STATUS reply: its held class, and its latest conversion or 0xFFFF. -/
def channelFields (c : Channel) : List Byte :=
  one (c.held.elim 0 (·.code)) :: be 2 (c.lastValue.elim 0xFFFF (·.toNat))

/-- The reply fields of QUERY STATUS (R57, R147, R173, R188). -/
def State.statusFields (s : State) : List Byte :=
  be 4 s.clock.value ++ [one s.clock.status.code] ++ be 4 s.clock.elapsed ++
  field 2 (uncertainty s.clock.elapsed) ++ field 2 (margin s.clock.elapsed) ++
  [one (flagCode s.clock.budgetDay.isSome)] ++ be 4 (s.clock.budgetDay.getD 0) ++
  allRooms.flatMap (fun r => channelFields (s.channel r)) ++
  [one s.evac.held.code, one (flagCode s.evac.hold), one (flagCode s.evac.carryOver), one (flagCode s.evac.active),
   one (if s.link.up then 2 else 1)] ++
  field 1 s.link.credits ++ field 1 s.link.places.length ++
  field 2 s.link.discardsCrc ++ field 2 s.link.discardsLength ++ field 2 s.link.discardsOverrun ++
  [one s.batch.phase.code] ++ be 2 s.batch.id.toNat ++ field 2 s.batch.declared ++ field 2 s.batch.received ++
  [one (s.batch.kept.elim 0 (·.1.code))] ++ field 2 (s.batch.kept.elim 0 (·.2)) ++ field 2 s.journal.length

/-- The reply fields of QUERY PERMIT (R24, R188). -/
def State.permitFields (s : State) (p : Permit) : List Byte :=
  encodePermit p.defn ++ [one p.state.code] ++ field 2 p.used ++ [one (flagCode p.storePending)] ++
  (match s.occupantOf? p.defn.number with
   | none => zeros 2
   | some o => [one o.state.code, one o.room.val])

/-- The due time of an entry with this owner. -/
def State.dueOf (s : State) (w : Owner) : Option EstateTime :=
  (s.deadlines.find? fun e => e.owner == w).map (·.due)

/-- The STAY slot's kind and due time (R188). -/
def State.staySlotFields (s : State) (c : Credential) : List Byte :=
  match s.dueOf (.stay c) with
  | some t => one 1 :: field 4 t
  | none => zeros 5

/-- The WATCH slot's kind and due time (R188). -/
def State.watchSlotFields (s : State) (c : Credential) : List Byte :=
  match s.dueOf (.arrive c) with
  | some t => one 1 :: field 4 t
  | none =>
    match s.dueOf (.check c) with
    | some t => one 2 :: field 4 t
    | none => zeros 5

/-- The arrival open mark stands while now is before E + 30 (R155). -/
def arrivalStands (now : EstateTime) (o : Occupant) : Bool := o.arrivalOpen && decide (now < addTime o.entryTime 30)

/-- The flags of a record block: lone alarm, uncovered mark, arrival open mark, evacuation time present (R188). -/
def recordFlags (now : EstateTime) (o : Occupant) : Nat :=
  flagCode o.loneAlarm + 2 * flagCode o.uncovered + 4 * flagCode (arrivalStands now o) + 8 * flagCode o.evacTime.isSome

/-- The covered list in four places of five bytes (R188). -/
def coverFields (l : List Credential) : List Byte := ((l.take 4).flatMap credBytes) ++ zeros (5 * (4 - l.length))

/-- The record block of a ROSTER_ROOM reply, 65 bytes (R188). -/
def State.recordBlock (s : State) (o : Occupant) : List Byte :=
  credBytes o.cred ++ be 4 o.permit.toNat ++ [one o.entryDoor.val, one o.state.code] ++
  field 4 o.entryTime ++ field 4 o.chargeStart ++ field 4 o.allowanceEnd ++
  [one o.stage.code, one (recordFlags s.now o)] ++ field 4 (o.evacTime.getD 0) ++
  credBytes? o.coveredBy ++ [one o.covers.length] ++ coverFields o.covers ++
  s.staySlotFields o.cred ++ s.watchSlotFields o.cred

/-- A filled slot in a ROSTER_ROOM reply (R188). -/
def pairingFields (d : DoorId) (q : Pairing) : List Byte :=
  one d.val :: (credBytes q.cred ++ one q.need.code :: field 4 q.time)

/-- The filled slots at a room's doors, in ascending door order (R117). -/
def State.filledSlots (s : State) (r : RoomId) : List (DoorId × Pairing) :=
  (s.doorsOfRoom r).filterMap fun d => (s.pairing d).map fun q => (d, q)

/-- The reply fields of QUERY ROSTER_ROOM (R117, R188). Past the list's end the record block is an absent item: 65 bytes
of 0, its presence byte 0 (DEDUCED, log entry 51). -/
def State.rosterFields (s : State) (r : RoomId) (ordinal : Nat) : List Byte :=
  [one (s.room r).mode.code] ++ field 1 (s.presentCount r) ++
  (match (s.inRoom r)[ordinal]? with
   | some o => one 1 :: s.recordBlock o
   | none => one 0 :: zeros 65) ++
  one (s.filledSlots r).length :: (s.filledSlots r).flatMap fun x => pairingFields x.1 x.2

/-- The reply fields of QUERY DESCRIBE for a room (R42, R188). -/
def State.describeRoomFields (s : State) (r : RoomId) : List Byte :=
  encodeSettings r.val (s.room r).settings ++
  [one (s.room r).mode.code, one (s.room r).prior.code, one (flagCode (s.room r).doorAlarm),
   one (s.isolation r).code] ++ field 1 (s.presentCount r) ++ [one (s.doorsOfRoom r).length]

/-- The reply fields of QUERY DESCRIBE for a door (R42, R188). -/
def State.describeDoorFields (s : State) (d : DoorId) : List Byte :=
  match s.door d with
  | none => [one d.val, 0xFF#8, 0xFF#8]
  | some m => [one d.val, one m.room.val, one m.port.val]

/-! ## Frames the part sends (13.3) -/

/-- The kind code of a waiting frame. -/
def Outgoing.kind : Outgoing → Nat
  | .reply _ _ _ => 3
  | .batchDone _ _ _ _ => 4

/-- The tag of the frame it answers. -/
def Outgoing.tag : Outgoing → Byte
  | .reply tag _ _ => tag
  | .batchDone tag _ _ _ => tag

/-- The payload of a REPLY or BATCH_DONE (13.3, R188). -/
def Outgoing.payload : Outgoing → List Byte
  | .reply _ r fields => one r.code :: fields
  | .batchDone _ id none n => be 2 id.toNat ++ [one 1, 0] ++ field 2 n
  | .batchDone _ id (some e) n => be 2 id.toNat ++ [one 2, one e.code] ++ field 2 n

/-! ## Journal records (R189) -/

/-- The bytes of a record's detail, without its length byte (R189), in the orders of log entry 16 (DEDUCED). An ESCORT_LOSS
carries the new escort's five bytes with either outcome, of 0 where it is UNCOVERED: R123's "what R122 lists" leaves open
whether the item is listed there (DEDUCED, log entry 16). -/
def Detail.bytes : Detail → List Byte
  | .none => []
  | .cause c => [one (causeCode c)]
  | .minutes m => field 2 m
  | .refusal r Option.none => [one r.code]
  | .refusal r (some n) => [one r.code, one n.code]
  | .leave d k => one d.code :: field 4 k
  | .account d Option.none k => one d.code :: field 4 k
  | .account d (some src) k => one d.code :: one src.code :: field 4 k
  | .charged k => field 4 k
  | .instant t => field 4 t
  | .recovered company => [one (if company then 2 else 1)]
  | .curtail r before after => one r.code :: (field 4 before ++ field 4 after)
  | .extend before after => field 4 before ++ field 4 after
  | .escortLoss lost new => credBytes? lost ++ one (if new.isSome then 1 else 2) :: credBytes? new
  | .partner c => credBytes c
  | .alarmBefore raised => [one (flagCode raised)]
  | .source src => [one src.code]
  | .heldChange before after => [one before.code, one after.code]
  | .isolationLost st present atStart => [one st.code, one present, one (if atStart then 2 else 1)]
  | .evacStart src n => [one src.code, one n]
  | .evacEnd src rooms n => [one src.code, one rooms, one n]
  | .roomMode v before after prior => [one v.code, one before.code, one after.code, one (prior.elim 0 (·.code))]
  | .musterCleared before after => [one ModeDetail.musterCleared.code, one before.code, one after.code]
  | .clockStatus st => [one st.code]
  | .clockSet before after => one ClockStatus.set.code :: (field 4 before ++ field 4 after)
  | .applied d => [one d.code]
  | .doorSet Option.none => [one 7, 0, 0]
  | .doorSet (some (r, p)) => [one 7, one r.val, one p.val]
  | .restart => [one 1]

/-- The detail field with its own length byte; nothing where there is no detail. -/
def Detail.field (d : Detail) : List Byte := if d.bytes = [] then [] else one d.bytes.length :: d.bytes

/-- The flags byte of a journal record (R189). -/
def JournalRecord.flags (j : JournalRecord) : Nat :=
  flagCode j.gap + 2 * flagCode j.entry.room.isSome + 4 * flagCode j.entry.door.isSome +
    8 * flagCode j.entry.cred.isSome + 16 * flagCode j.entry.permit.isSome + 32 * flagCode !j.entry.detail.bytes.isEmpty

/-- The payload of an EVENT frame (R189). -/
def JournalRecord.bytes (j : JournalRecord) : List Byte :=
  field 4 j.time ++ [one j.entry.kind.code, one j.flags] ++
  (j.entry.room.elim [] fun r => [one r.val]) ++ (j.entry.door.elim [] fun d => [d]) ++
  (j.entry.cred.elim [] credBytes) ++ (j.entry.permit.elim [] fun n => be 4 n.toNat) ++ j.entry.detail.field

/-! ## Muster answers (13.5) -/

/-- A muster answer with a status other than OK: the status, then zeros. -/
def musterStatus (n : Nat) : List Byte := one n :: zeros 7

/-- The minutes since a record's evacuation time (R161). -/
def minutesSince (now : EstateTime) (o : Occupant) : Nat := min ((now - o.evacTime.getD now) / 60) 32767

/-- The answer to ROOM_SUMMARY (R161, 13.5). -/
def State.summaryAnswer (s : State) (r : RoomId) : List Byte :=
  if (s.room r).settings.inUse then
    [0, one (s.room r).mode.code] ++ field 1 (s.presentCount r) ++ field 1 (s.unaccountedIn r).length ++
      [one (s.isolation r).code] ++ zeros 3
  else musterStatus 4

/-- The answer to UNACCOUNTED_ENTRY (R161, 13.5). -/
def State.unaccountedAnswer (s : State) (r : RoomId) (ordinal : Nat) : List Byte :=
  match (s.unaccountedIn r)[ordinal]? with
  | none => musterStatus 1
  | some o =>
    0 :: (credBytes o.cred ++
      be 2 (minutesSince s.now o + (match s.kindOf o with
        | .contractor => 0
        | .escort => 32768)))

/-- The answer to PRESENT_ENTRY (R161, 13.5). -/
def State.presentAnswer (s : State) (r : RoomId) (ordinal : Nat) : List Byte :=
  match (s.inRoom r)[ordinal]? with
  | none => musterStatus 1
  | some o =>
    0 :: (credBytes o.cred ++
      [one (o.state.code + (match s.kindOf o with
         | .contractor => 0
         | .escort => 128)),
       one (o.stage.code + 16 * flagCode o.uncovered + 32 * flagCode o.loneAlarm)])

end Sys2Proof.Machine
end

