-- ==== Sys2Proof/Machine/DoorPort.lean ====
section
/-! DEFINITION. The commands of the door ports (R163 to R168): presentations, arrival reports, check-ins, door alarms,
READ and PORT_RESET. -/

namespace Sys2Proof.Machine

/-! ## Exchanges -/

/-- An exchange begins: the status byte is shifted out (R163); the model keeps it, and that nothing else has been yet. -/
def State.beginExchange (s : State) (p : PortId) : State :=
  s.setPort p { s.port p with lastStatus := s.statusByte p, lastShift := [] }

/-- Sets a port's held outcome. -/
def State.setOutcome (s : State) (p : PortId) (o : PortOutcome) : State := s.setPort p { s.port p with outcome := o }

/-- The exchange of one request (R163 to R165). A status poll takes no request and changes no held outcome. While the
part is STARTING or LOW_POWER nothing is judged. Otherwise the frame is judged, then the queue test asks for `places`
uncommitted places, and a request that is taken has its `effect`, given the door and the payload. -/
def State.portExchange (s : State) (p : PortId) (x : Exchange) (request : Option (Byte × List Byte)) (places : Nat)
    (effect : Byte → List Byte → State → State) : State :=
  let t := s.beginExchange p
  if x.isPoll then t
  else
    match s.part with
    | .starting => t.setOutcome p .starting
    | .lowPower => t.setOutcome p .lowPower
    | .running =>
      match request with
      | none => t.setOutcome p .badFrame
      | some (door, payload) =>
        if places ≤ s.uncommitted p then effect door payload (t.setOutcome p .taken) else t.setOutcome p .notTakenFull

/-! ## OUT presentations and check-ins -/

/-- An EXIT_RESULT in a port's queue. -/
def State.answerExit (s : State) (p : PortId) (door : Byte) (c : Credential) (r : ExitResult) (k : Nat) : State :=
  s.place p (.exitResult door c r k)

/-- An OUT by a credential with no record in the room of the door (R98), or at an unmapped door (R164). The minutes of its
EXIT_RESULT, of which no rule states a value here, are 0 (DESIGN CHOICE, log entry 58). -/
def State.exitUnknown (s : State) (p : PortId) (door : Byte) (room : Option RoomId) (c : Credential) (r : ExitResult) :
    State :=
  (s.answerExit p door c r 0).write { kind := .exitUnknown, room := room, door := some door, cred := some c }

/-- The detail of an exit: OUT, or EVAC in an EVACUATING room (R97, R154). -/
def exitDetail (m : Mode) : LeaveDetail := if m = .evacuating then .evac else .out

/-- An OUT by a record of the door's room (R97, R154, R157). -/
def State.recordOut (s : State) (p : PortId) (door : Byte) (o : Occupant) : State :=
  match o.state with
  | .unaccounted =>
    s.accountRecord o s.now (some door) .inside none fun k t => t.answerExit p door o.cred .exited k
  | .arriving | .inside =>
    s.endStay o
      (fun k => { kind := .exit, room := some o.room, door := some door, cred := some o.cred, permit := some o.permit,
                  detail := .leave (exitDetail (s.room o.room).mode) k })
      (fun k t => t.answerExit p door o.cred .exited k)

/-- A credential's record where it stands in this room. -/
def State.recordIn (s : State) (r : RoomId) (c : Credential) : Option Occupant :=
  match s.record? c with
  | some o => if o.room = r then some o else none
  | none => none

/-- An OUT presentation (R96). -/
def State.outPresentation (s : State) (p : PortId) (door : Byte) (c : Credential) : State :=
  match s.mappedDoor p door with
  | none => s.exitUnknown p door none c .unknownDoor
  | some (_, r) =>
    let t := s.cancelPairingOf c
    match t.recordIn r c with
    | none => t.exitUnknown p door (some r) c .exitUnknown
    | some o => t.recordOut p door o

/-- A CHECK_RESULT in a port's queue. -/
def State.answerCheck (s : State) (p : PortId) (door : Byte) (c : Credential) (r : CheckResult) (due : EstateTime) :
    State :=
  s.place p (.checkResult door c r due)

/-- A check-in is accepted (R132). -/
def State.acceptCheck (s : State) (p : PortId) (door : Byte) (o : Occupant) : State :=
  let t := s.armCheck o
  let u := if o.loneAlarm then t.loneRecovered o false else t
  u.answerCheck p door o.cred .accepted (addTime s.now (60 * (s.room o.room).settings.checkInterval))

/-- A CHECK_IN request (R132). -/
def State.checkIn (s : State) (p : PortId) (door : Byte) (c : Credential) : State :=
  match s.mappedDoor p door with
  | none => s.answerCheck p door c .unknownDoor 0
  | some (_, r) =>
    let t := s.cancelPairingOf c
    match t.recordIn r c with
    | none => t.answerCheck p door c .notExpected 0
    | some o => if t.hasCheck c then t.acceptCheck p door o else t.answerCheck p door c .notExpected 0

/-! ## Arrival reports -/

/-- The record an arrival report is matched to (R92, R155): the credential's, granted at this door, and ARRIVING in an
IN_SERVICE or CLOSED room, or with its arrival open mark standing in an EVACUATING or MUSTER room. -/
def State.arrivalMatch (s : State) (d : DoorId) (c : Credential) : Option Occupant :=
  match s.record? c with
  | none => none
  | some o =>
    if o.entryDoor = d ∧
        (if (s.room o.room).mode.isOrdinary then o.state = .arriving else arrivalStands s.now o = true) then some o
    else none

/-- ARRIVAL PASSED (R92, R155). -/
def State.arrivalPassedAt (s : State) (p : PortId) (door : Byte) (c : Credential) : State :=
  match s.mappedDoor p door with
  | none => s
  | some (d, _) =>
    match s.arrivalMatch d c with
    | none => s
    | some o =>
      if (s.room o.room).mode.isOrdinary then s.becomeInside o
      else s.updateRecord c fun x => { x with arrivalOpen := false }

/-- ARRIVAL NOT_PASSED (R93, R155). -/
def State.arrivalNotPassedAt (s : State) (p : PortId) (door : Byte) (c : Credential) : State :=
  match s.mappedDoor p door with
  | none => s
  | some (d, _) =>
    match s.arrivalMatch d c with
    | none => s
    | some o => s.removeUnused o

/-! ## Door alarms -/

/-- FORCED (R36): the alarm of a room in use is raised; DOOR_FORCED carries the alarm before. -/
def State.doorForced (s : State) (p : PortId) (door : Byte) : State :=
  match s.mappedDoor p door with
  | none => s
  | some (_, r) =>
    let x := s.room r
    (if x.settings.inUse then s.setRoom r { x with doorAlarm := true } else s).write
      { kind := .doorForced, room := some r, door := some door, detail := .alarmBefore x.doorAlarm }

/-- HELD (R36). -/
def State.doorHeld (s : State) (p : PortId) (door : Byte) : State :=
  match s.mappedDoor p door with
  | none => s
  | some (_, r) => s.write { kind := .doorHeld, room := some r, door := some door }

/-- RESTORED (R36). -/
def State.doorRestored (s : State) (p : PortId) (door : Byte) : State :=
  match s.mappedDoor p door with
  | none => s
  | some (_, r) =>
    (s.setRoom r { s.room r with doorAlarm := false }).write
      { kind := .doorRestored, room := some r, door := some door, detail := .source .door }

/-! ## READ and PORT_RESET -/

/-- What a READ shifts out from its check byte on: the head item's bytes, or the empty-item marker (R166). -/
def State.headBytes (s : State) (p : PortId) : List Byte :=
  match (s.port p).queue with
  | [] => emptyMarker
  | i :: _ => i.bytes

/-- The bytes shifted out after the four bytes of a READ frame, as many as the controller clocks: the head's, then 0
(R166). They begin after the fourth byte whatever the length byte says: a READ frame's check byte is its fourth (DESIGN
CHOICE for a frame with another length, log entry 55). -/
def State.shifted (s : State) (p : PortId) (x : Exchange) : List Byte :=
  (s.headBytes p ++ zeros (x.sdi.length - 20)).take (x.sdi.length - 4)

/-- The port's shift register has sent the head item, or part of it, where the part is RUNNING and the exchange's kind
byte is READ's (R166). -/
def State.recordShift (s : State) (p : PortId) (x : Exchange) (t : State) : State :=
  if decide (s.part = .running) && !x.isPoll && decide ((byteAt x.sdi 0).toNat = 6) then
    t.setPort p { t.port p with lastShift := s.shifted p x }
  else t

/-- The head item is removed where all its 16 bytes were clocked out (R166). -/
def State.removeHead (s : State) (p : PortId) (x : Exchange) : State :=
  if 20 ≤ x.sdi.length then s.setPort p { s.port p with queue := (s.port p).queue.tail } else s

/-- PORT_RESET (R167): the queue is emptied, then the pairings at the port's doors end without an answer. -/
def State.resetPort (s : State) (p : PortId) : State :=
  (s.doorsOfPort p).foldl State.dropPairing (s.setPort p { s.port p with queue := [] })

/-! ## The commands -/

/-- PRESENT_IN (R60, R165). -/
def execPresentIn (p : PortId) (x : Exchange) (s : State) : Host.Outcome State Fault Refusal :=
  .next (s.portExchange p x (requestOf 1 5 none x) 2 fun door payload t => t.admission p door (payloadCredential payload))

/-- PRESENT_OUT (R96, R165). -/
def execPresentOut (p : PortId) (x : Exchange) (s : State) : Host.Outcome State Fault Refusal :=
  .next (s.portExchange p x (requestOf 2 5 none x) 1
    fun door payload t => t.outPresentation p door (payloadCredential payload))

/-- CHECK_IN (R132, R165). -/
def execCheckIn (p : PortId) (x : Exchange) (s : State) : Host.Outcome State Fault Refusal :=
  .next (s.portExchange p x (requestOf 3 5 none x) 1 fun door payload t => t.checkIn p door (payloadCredential payload))

/-- ARRIVAL with PASSED (R92, R155). -/
def execArrivalPassed (p : PortId) (x : Exchange) (s : State) : Host.Outcome State Fault Refusal :=
  .next (s.portExchange p x (requestOf 4 6 (some (5, 1)) x) 0
    fun door payload t => t.arrivalPassedAt p door (payloadCredential payload))

/-- ARRIVAL with NOT_PASSED (R93, R155). -/
def execArrivalNotPassed (p : PortId) (x : Exchange) (s : State) : Host.Outcome State Fault Refusal :=
  .next (s.portExchange p x (requestOf 4 6 (some (5, 2)) x) 0
    fun door payload t => t.arrivalNotPassedAt p door (payloadCredential payload))

/-- DOOR_ALARM with FORCED (R36). -/
def execDoorAlarmForced (p : PortId) (x : Exchange) (s : State) : Host.Outcome State Fault Refusal :=
  .next (s.portExchange p x (requestOf 5 1 (some (0, 1)) x) 0 fun door _ t => t.doorForced p door)

/-- DOOR_ALARM with HELD (R36). -/
def execDoorAlarmHeld (p : PortId) (x : Exchange) (s : State) : Host.Outcome State Fault Refusal :=
  .next (s.portExchange p x (requestOf 5 1 (some (0, 2)) x) 0 fun door _ t => t.doorHeld p door)

/-- DOOR_ALARM with RESTORED (R36). -/
def execDoorAlarmRestored (p : PortId) (x : Exchange) (s : State) : Host.Outcome State Fault Refusal :=
  .next (s.portExchange p x (requestOf 5 1 (some (0, 3)) x) 0 fun door _ t => t.doorRestored p door)

/-- READ (R166). -/
def execRead (p : PortId) (x : Exchange) (s : State) : Host.Outcome State Fault Refusal :=
  .next (s.recordShift p x (s.portExchange p x (requestOf 6 0 none x) 0 fun _ _ t => t.removeHead p x))

/-- PORT_RESET (R167). -/
def execPortReset (p : PortId) (x : Exchange) (s : State) : Host.Outcome State Fault Refusal :=
  .next (s.portExchange p x (requestOf 7 0 none x) 0 fun _ _ t => t.resetPort p)

end Sys2Proof.Machine
end

