-- ==== Sys2Proof/Machine/Estate.lean ====
section
/-! DEFINITION. The estate's commands on the clock, the evacuation hold and the roster: TIME (R50), EVACUATE (R149),
EXTEND (R110 to R112), RELEASE (R99) and ACCOUNT (R157). -/

namespace Sys2Proof.Machine

/-- TIME: a mark of 0 is refused RANGE (R50). -/
def State.timeMark (s : State) (mark : Word32) : Answer :=
  if mark.toNat = 0 then s.refuse .range else (s.takeMark mark.toNat).okay

/-- The evacuation hold takes a value, and R148 is applied (R149). -/
def State.setHold (s : State) (hold : Bool) : State :=
  ({ s with evac := { s.evac with hold := hold } } : State).evacTest .estate

/-! ## EXTEND -/

/-- EXTEND's tests of the record, in their order up to the fourth (R110): the record and its ACTIVE permit, or the refusal. -/
def State.extendSubject (s : State) (c : Credential) : Except ReplyResult (Occupant × Permit) :=
  match s.record? c with
  | none => .error .unknownCredential
  | some o =>
    if o.state = .unaccounted || !(s.room o.room).mode.isOrdinary then .error .state
    else
      match s.permit? o.permit with
      | none => .error .state
      | some p => if p.state = .active && namesRoom p.defn o.room then .ok (o, p) else .error .state

/-- The record is the only record of a PAIRED room (R110). -/
def State.aloneInPaired (s : State) (o : Occupant) : Bool :=
  (s.room o.room).settings.presence == .paired && s.presentCount o.room == 1

/-- The allowance A of EXTEND for a record and its permit (R111). -/
def State.extension (s : State) (o : Occupant) (p : Permit) : Nat :=
  extendAllowance p.defn s.clock.status s.clock.elapsed s.now p.used (s.room o.room).settings.maxStay o.entryTime
    o.chargeStart

/-- EXTEND's tests from the fifth on (R110). -/
def State.extendTests (s : State) (o : Occupant) (p : Permit) : Except ReplyResult Nat :=
  if p.defn.kind = .contractor ∧ s.clock.status ≠ .set then .error .clock
  else if o.uncovered || s.aloneInPaired o then .error .state
  else if !(passesUntimed p.defn s.clock.status || insideWindow p.defn (permitMargin p.defn s.clock.elapsed) s.now) then
    .error .outsideWindow
  else if s.extension o p < 300 ∨ addTime s.now (s.extension o p) ≤ o.allowanceEnd then .error .noGain
  else .ok (s.extension o p)

/-- An EXTEND that passes every test (R112): the allowance end and the stage that follows from it, with no notice, the
STAY entry re-armed, and EXTENDED. -/
def State.extendTo (s : State) (o : Occupant) (ae : EstateTime) : State :=
  ((s.updateRecord o.cred fun x =>
      { x with allowanceEnd := ae, stage := stageAt s.now ae (s.room o.room).settings.grace }).rearmStay o.cred).write
    { kind := .extended, room := some o.room, cred := some o.cred, permit := some o.permit,
      detail := .extend o.allowanceEnd ae }

/-- EXTEND (R110, R112): OK carries the new allowance end and A in minutes. -/
def State.extendStay (s : State) (c : Credential) : Answer :=
  match s.extendSubject c with
  | .error r => s.refuse r
  | .ok (o, p) =>
    match s.extendTests o p with
    | .error r => s.refuse r
    | .ok a => (s.extendTo o (addTime s.now a)).okayWith (be 4 (addTime s.now a) ++ be 2 (a / 60))

/-! ## RELEASE and ACCOUNT -/

/-- An UNACCOUNTED record is accounted by the estate, named by its credential (R157). -/
def State.accountNamed (s : State) (o : Occupant) : State :=
  s.accountRecord o (accountedEnd o) none .estate none fun _ t => t

/-- A RELEASE ends a present record's stay as an exit at now, journaled RELEASED, with no EXIT_RESULT (R99). -/
def State.releaseRecord (s : State) (o : Occupant) : State :=
  s.endStay o
    (fun k => { kind := .released, room := some o.room, cred := some o.cred, permit := some o.permit,
                detail := .charged k })
    (fun _ t => t)

/-- RELEASE (R99). -/
def State.release (s : State) (c : Credential) : Answer :=
  match s.record? c with
  | none => s.refuse .unknownCredential
  | some o => if o.state = .unaccounted then (s.accountNamed o).okay else (s.releaseRecord o).okay

/-- ACCOUNT naming a credential (R157): OK carries the number accounted. -/
def State.accountCred (s : State) (c : Credential) : Answer :=
  match s.record? c with
  | none => s.refuse .unknownCredential
  | some o => if o.state = .unaccounted then (s.accountNamed o).okayWith [1] else s.refuse .state

/-- ACCOUNT naming a room (R157). -/
def State.accountNamedRoom (s : State) (room : Byte) : Answer :=
  match roomOfNat room.toNat with
  | none => s.refuse .unknownRoom
  | some r =>
    if (s.room r).mode = .muster then
      (s.accountAll .estate (s.inRoom r)).okayWith [BitVec.ofNat 8 (s.presentCount r)]
    else s.refuse .state

/-! ## The commands -/

/-- TIME (R50). -/
def execTime (tag : Byte) (mark : Word32) (s : State) : Host.Outcome State Fault Refusal :=
  .next (s.takeCommand false tag (.time mark) fun t => t.timeMark mark)

/-- EVACUATE START (R149). -/
def execEvacuateStart (tag : Byte) (s : State) : Host.Outcome State Fault Refusal :=
  .next (s.takeCommand false tag .evacuateStart fun t => (t.setHold true).okay)

/-- EVACUATE END (R149). -/
def execEvacuateEnd (tag : Byte) (s : State) : Host.Outcome State Fault Refusal :=
  .next (s.takeCommand false tag .evacuateEnd fun t => (t.setHold false).okay)

/-- EXTEND (R110). -/
def execExtend (tag : Byte) (c : Credential) (s : State) : Host.Outcome State Fault Refusal :=
  .next (s.takeCommand false tag (.extend c) fun t => t.extendStay c)

/-- RELEASE (R99). -/
def execRelease (tag : Byte) (c : Credential) (s : State) : Host.Outcome State Fault Refusal :=
  .next (s.takeCommand false tag (.release c) fun t => t.release c)

/-- ACCOUNT naming a credential (R157). -/
def execAccountCredential (tag : Byte) (c : Credential) (s : State) : Host.Outcome State Fault Refusal :=
  .next (s.takeCommand false tag (.accountCredential c) fun t => t.accountCred c)

/-- ACCOUNT naming a room (R157). -/
def execAccountRoomEstate (tag room : Byte) (s : State) : Host.Outcome State Fault Refusal :=
  .next (s.takeCommand false tag (.accountRoom room) fun t => t.accountNamedRoom room)

end Sys2Proof.Machine
end

