-- ==== Sys2Proof/Machine/Inputs.lean ====
section
/-! DEFINITION. The supervised inputs: the isolation channels (R137 to R145) and the EVAC line (R146, R159). -/

namespace Sys2Proof.Machine

/-! ## Isolation channels -/

/-- What one conversion of class `x` makes of an enabled channel (R139): its candidate and held class after, and whether
the held class has changed. -/
def Channel.debounce (c : Channel) (held x : HeldClass) : Channel × Bool :=
  if x = held then ({ c with candidate := none }, false)
  else
    match c.candidate with
    | none => ({ c with candidate := some (x, 1) }, false)
    | some (y, n) =>
      if y = x then
        if n = 1 then ({ c with candidate := some (x, 2) }, false)
        else ({ c with held := some x, candidate := none, fromStart := false }, true)
      else ({ c with candidate := some (x, 1) }, false)

/-- ISOLATION_LOST in the journal and at every door of the room (R143, R145). -/
def State.isolationLost (s : State) (r : RoomId) (atStart : Bool) : State :=
  (s.write { kind := .isolationLost, room := some r,
             detail := .isolationLost (s.isolation r) (s.presentCount r) atStart }).notify r
    { kind := .isolationLost, detail := .isolation (s.isolation r) }

/-- The outputs of a held-class change in an occupied room (R143 to R145); `first` where it is the first change after
start-up. -/
def State.isolationOutputs (s : State) (r : RoomId) (before : HeldClass) (first : Bool) : State :=
  let was := isolationOf (some before)
  let is := s.isolation r
  if s.presentCount r = 0 then s
  else if first then
    if is = .confirmed then s else s.isolationLost r true
  else if was = .confirmed ∧ (is = .notConfirmed ∨ is = .fault) then s.isolationLost r false
  else if (was = .notConfirmed ∨ was = .fault) ∧ is = .confirmed then s.notify r { kind := .isolationRestored }
  else s

/-- A held-class change: its journal record where the room's setting selects it, then its outputs (R139, R142). -/
def State.classChanged (s : State) (r : RoomId) (before after : HeldClass) (first : Bool) : State :=
  (if selectsChange (s.room r).settings.events before after then
    s.write { kind := .isolationChange, room := some r, detail := .heldChange before after }
  else s).isolationOutputs r before first

/-- One conversion of a room's channel; a disabled channel is not converted (R136, R137). -/
def State.convert (s : State) (r : RoomId) (v : BitVec 10) : State :=
  match (s.channel r).held with
  | none => s
  | some held =>
    let d := (s.channel r).debounce held (classOf v)
    let t := s.setChannel r { d.1 with lastValue := some v }
    if d.2 then t.classChanged r held (classOf v) (s.channel r).fromStart else t

/-- ISOLATION_SCAN: while RUNNING every enabled channel is converted once, in ascending order (R137). -/
def execIsolationScan (values : Vector (BitVec 10) 16) (s : State) : Host.Outcome State Fault Refusal :=
  .next (if s.part = .running then allRooms.foldl (fun t r => t.convert r (values.get r)) s else s)

/-! ## The EVAC line -/

/-- The level of the EVAC line: active low (R146). -/
def lineLevel (low : Bool) : EvacLevel := if low then .active else .inactive

/-- One sample of the line (R146); the samples since the part became RUNNING are counted up to the second (R159). -/
def Evac.sample (e : Evac) (x : EvacLevel) : Evac :=
  let f := { e with samples := min (e.samples + 1) 2 }
  if x = f.held then { f with candidate := none }
  else if f.candidate = some x then { f with held := x, candidate := none }
  else { f with candidate := some x }

/-- The carry-over is cleared at the second sample after the part became RUNNING, and R148 applied (R159). -/
def State.confirmCarryOver (s : State) (second : Bool) : State :=
  if second && s.evac.carryOver then
    ({ s with evac := { s.evac with carryOver := false } } : State).evacTest .restored
  else s

/-- EVAC_SAMPLE (R146): a change of the held level is handed to the evacuation logic. -/
def execEvacSample (low : Bool) (s : State) : Host.Outcome State Fault Refusal :=
  .next
    (if s.part = .running then
      (({ s with evac := s.evac.sample (lineLevel low) } : State).evacTest .line).confirmCarryOver
        (decide (s.evac.samples = 1))
    else s)

end Sys2Proof.Machine
end

