-- ==== Sys2Proof/WellFormed.lean ====
section
/-! DEFINITION. Which commands are well-formed: the row's own frames and operands. A term that is not well-formed still
has a meaning in the machine (the part judges every byte it receives); it is only no event of its row. -/

namespace Sys2Proof

/-- A door port exchange that can belong to the row with this kind code: a status poll, or a frame whose kind byte is
the row's own or is none of the seven (such a frame is BAD_FRAME whatever the row, R164). -/
def Exchange.wfKind (x : Exchange) (code : Nat) : Bool :=
  x.isPoll || decide ((byteAt x.sdi 0).toNat = code) || decide ((byteAt x.sdi 0).toNat = 0) ||
    decide (7 < (byteAt x.sdi 0).toNat)

/-- An exchange of a row that a payload value selects (ARRIVAL's result, DOOR_ALARM's condition): the value at `place` is
the row's own, or one of no row (R164). -/
def Exchange.wfValue (x : Exchange) (place value count : Nat) : Bool :=
  decide ((byteAt x.sdi place).toNat = value) || decide ((byteAt x.sdi place).toNat = 0) ||
    decide (count < (byteAt x.sdi place).toNat)

/-- A good frame: whole, and with a matching CRC (R169). -/
def WireFrame.good (w : WireFrame) : Bool := w.whole && w.crcMatches

/-- Well-formed commands. -/
def Instr.wf : Instr → Bool
  | .presentIn _ x => x.wfKind 1
  | .presentOut _ x => x.wfKind 2
  | .checkIn _ x => x.wfKind 3
  | .arrivalPassed _ x => x.wfKind 4 && x.wfValue 8 1 2
  | .arrivalNotPassed _ x => x.wfKind 4 && x.wfValue 8 2 2
  | .doorAlarmForced _ x => x.wfKind 5 && x.wfValue 3 1 3
  | .doorAlarmHeld _ x => x.wfKind 5 && x.wfValue 3 2 3
  | .doorAlarmRestored _ x => x.wfKind 5 && x.wfValue 3 3 3
  | .read _ x => x.wfKind 6
  | .portReset _ x => x.wfKind 7
  | .frameReceived w => w.good && !isLinkKind w.kind
  | .frameCrcDiscard w => w.whole && !w.crcMatches
  | .interByteGapTimeout bytes => decide (bytes.length < 4) || decide (bytes.length < 6 + (byteAt bytes 0).toNat)
  | .frameLengthDiscard w => w.whole
  | .frameOverrunDiscard w => w.whole && !isLinkKind w.kind
  | .hello w => w.good && decide (w.kind.toNat = 1)
  | .credit w => w.good && decide (w.kind.toNat = 2)
  | .permit _ payload => decide (payload.length = 32)
  | .unknownCommand _ kind payload => decide (decodeCommand kind payload = none)
  | .roomSet _ _ st => decide (st.maxOccupancy < 256) && decide (st.maxStay < 65536) &&
      decide (st.checkInterval < 256) && decide (st.grace < 256)
  | .doorSet _ _ target => decide (target ≠ some (0xFF#8, 0xFF#8))
  | .musterSelectorWrite _ bytes => decide ((byteAt bytes 0).toNat ≠ 3) || decide (bytes.length < 3)
  | .linkTimeout => true
  | .helloSendTick => true
  | .creditIdleTimeout => true
  | .sendFrame => true
  | .eventFrameSent => true
  | .time _ _ => true
  | .suspend _ _ => true
  | .resume _ _ => true
  | .revoke _ _ => true
  | .remove _ _ => true
  | .roomModeOpen _ _ => true
  | .roomModeClose _ _ => true
  | .roomModeCloseClear _ _ => true
  | .clearDoorAlarm _ _ => true
  | .evacuateStart _ => true
  | .evacuateEnd _ => true
  | .extend _ _ => true
  | .release _ _ => true
  | .accountCredential _ _ => true
  | .accountRoomEstate _ _ => true
  | .queryStatus _ => true
  | .queryPermit _ _ => true
  | .queryRosterRoom _ _ _ => true
  | .queryDescribeRoom _ _ => true
  | .queryDescribeDoor _ _ => true
  | .batchOpen _ _ _ => true
  | .batchClose _ _ => true
  | .batchAbort _ => true
  | .clockSecond => true
  | .clockLost => true
  | .stayEntry _ => true
  | .arriveEntry _ => true
  | .checkEntry _ => true
  | .pairEntry _ => true
  | .dayEntry => true
  | .isolationScan _ => true
  | .evacSample _ => true
  | .accountRoom _ _ _ => true
  | .roomSummary _ _ => true
  | .unaccountedEntry _ _ => true
  | .presentEntry _ _ => true
  | .flashOperationComplete => true
  | .lowVoltageWarning => true
  | .supplyRecovered => true
  | .deviceReset _ _ => true
  | .startupRunning => true

end Sys2Proof
end

