-- ==== Sys2Proof/Machine/LinkFrames.lean ====
section
/-! DEFINITION. The estate link's own commands (R169 to R171, R177): frames arriving and discarded, HELLO and CREDIT, the
link timers, and sending. -/

namespace Sys2Proof.Machine

/-! ## Discards (R169) -/

/-- A frame is discarded with the cause CRC: its place, where it had one, is freed and owed back (R171), and an open batch
keeps the error LINK_CRC where it keeps none (R174). -/
def State.discardCrc (s : State) (hadPlace : Bool) : State :=
  { s with
    link := { s.link with
      discardsCrc := s.link.discardsCrc + 1
      owed := if hadPlace then s.link.owed + 1 else s.link.owed }
    batch :=
      if s.batch.phase = .opened ∧ s.batch.kept = none then
        { s.batch with kept := some (.linkCrc, s.batch.received + 1) }
      else s.batch }

/-- A frame is discarded with the cause LENGTH; a credit is owed for it unless its kind byte names HELLO or CREDIT. -/
def State.discardLength (s : State) (linkKind : Bool) : State :=
  { s with link := { s.link with
      discardsLength := s.link.discardsLength + 1
      owed := if linkKind then s.link.owed else s.link.owed + 1 } }

/-- A frame is discarded with the cause OVERRUN. -/
def State.discardOverrun (s : State) : State :=
  { s with link := { s.link with discardsOverrun := s.link.discardsOverrun + 1 } }

/-- The length byte exceeds the effective maximum payload (R169). -/
def State.tooLong (s : State) (length : Byte) : Bool := decide (s.link.effectiveMax < length.toNat)

/-- None of the 8 receive places is free (R169). -/
def State.placesFull (s : State) : Bool := decide (Config.receivePlaces ≤ s.link.places.length)

/-! ## Credits and sending (R171, R177) -/

/-- A good frame's credit-return count is added, held at the gateway's declared count (R171). -/
def State.addCredits (s : State) (n : Byte) : State :=
  { s with link := { s.link with credits := min (s.link.credits + n.toNat) s.link.declared } }

/-- What the next frame's credit-return field carries: what is owed, at most 255 (R171). -/
def Link.creditReturn (l : Link) : Nat := min l.owed 255

/-- The part begins to send a frame, its length byte and CRC-16 with it, returning what it owes in it (R169, R171). -/
def State.sendOut (s : State) (kind : Nat) (tag : Byte) (payload : List Byte) : State :=
  { s with link := { s.link with
      owed := s.link.owed - s.link.creditReturn
      lastSent := linkFrameBytes kind tag s.link.creditReturn payload } }

/-- The part sends its HELLO: 8 receive credits and a maximum payload of 240 (R170). -/
def State.sendHello (s : State) : State := s.sendOut 1 0 [8, 240]

/-- The part sends a CREDIT frame (R171). -/
def State.sendCredit (s : State) : State := s.sendOut 2 0 []

/-- One gateway credit is spent (R171). -/
def State.spendCredit (s : State) : State := { s with link := { s.link with credits := s.link.credits - 1 } }

/-- The next frame in the order of R177: the oldest reply, else the oldest journal record in an EVENT frame, where a
credit is held; else a CREDIT frame where something is owed (R171). Replies and records that wait without a credit are taken as
no frame to send, so that what is owed goes back at once (DESIGN CHOICE, log entry 62). -/
def State.sendNext (s : State) : State :=
  if s.link.credits = 0 then
    if 0 < s.link.owed then s.sendCredit else s
  else
    match s.link.replies, s.journal with
    | r :: rest, _ =>
      (({ s with link := { s.link with replies := rest } } : State).spendCredit).sendOut r.kind r.tag r.payload
    | [], j :: _ =>
      (({ s with link := { s.link with eventInFlight := true } } : State).spendCredit).sendOut 5 0 j.bytes
    | [], [] => if 0 < s.link.owed then s.sendCredit else s

/-! ## The link's state (R170) -/

/-- A kept BATCH_DONE stays among the replies when the link goes DOWN or restarts (R170, R175). -/
def Outgoing.isBatchDone : Outgoing → Bool
  | .reply _ _ _ => false
  | .batchDone _ _ _ _ => true

/-- What going DOWN and a restart have in common (R170): waiting frames and unsent replies are discarded, an open batch is
discarded (R176), the credits become 0 and the effective maximum payload 240. -/
def State.linkLost (s : State) : State :=
  { s with
    link := { s.link with
      up := false
      credits := 0
      effectiveMax := Config.payloadMax
      places := []
      owed := 0
      replies := s.link.replies.filter Outgoing.isBatchDone
      eventInFlight := false }
    batch := if s.batch.phase = .opened then .idle else s.batch }

/-- The link goes DOWN (R170). -/
def State.linkDown (s : State) : State := s.linkLost.write { kind := .linkDown }

/-- The HELLO is acceptable: 1 or more receive credits, a maximum payload of 120 or more (R170); none where it is not. -/
def acceptableHello (payload : List Byte) : Option (Nat × Nat) :=
  match payload with
  | [credits, most] =>
    if 1 ≤ credits.toNat ∧ 120 ≤ most.toNat then some (credits.toNat, most.toNat) else none
  | _ => none

/-- A HELLO is accepted (R170): while UP the link restarts first, and LINK_UP carries RESTART. -/
def State.acceptHello (s : State) (credits most : Nat) : State :=
  let t := if s.link.up then s.linkLost else s
  let u : State :=
    { t with link := { t.link with
        declared := credits
        gatewayMax := most
        effectiveMax := min Config.payloadMax most
        credits := credits
        places := []
        owed := 0
        discardsCrc := 0
        discardsLength := 0
        discardsOverrun := 0 } }
  ({ u.sendHello with link := { u.sendHello.link with up := true } } : State).write
    { kind := .linkUp, detail := if s.link.up then .restart else .none }

/-! ## Frames arriving (R169, R170) -/

/-- A good frame is acted on or read into its place (R169, R170, R171). A HELLO is acted on only while RUNNING. -/
def State.goodFrame (s : State) (w : WireFrame) : State :=
  if w.kind.toNat = 1 then
    match acceptableHello w.payload with
    | some (credits, most) => if s.part = .running then s.acceptHello credits most else s
    | none => s
  else if w.kind.toNat = 2 then s.addCredits w.creditReturn
  else
    ({ s with link := { s.link with
        places := s.link.places ++ [{ kind := w.kind, tag := w.tag, payload := w.payload }] } } : State).addCredits
      w.creditReturn

/-- A frame arrives while UP: the receiver's cases in their order (R169). A frame discarded with the cause OVERRUN is read
no further: its CRC is not looked at and its credit-return count is not added (DEDUCED, log entry 50: the rule says so of
the cause LENGTH alone). -/
def State.frameWhileUp (s : State) (w : WireFrame) : State :=
  if s.tooLong w.length then s.discardLength (isLinkKind w.kind)
  else if !isLinkKind w.kind && s.placesFull then s.discardOverrun
  else if w.good then s.goodFrame w
  else s.discardCrc !isLinkKind w.kind

/-- A frame arrives while DOWN: frames other than HELLO are discarded, and nothing is counted (R170). -/
def State.frameWhileDown (s : State) (w : WireFrame) : State :=
  if w.kind.toNat = 1 ∧ w.good = true ∧ s.tooLong w.length = false then s.goodFrame w else s

/-- A frame of bytes arrives on the estate link; nothing is received while STARTING (R170). -/
def State.frameArrives (s : State) (w : WireFrame) : State :=
  match s.part with
  | .starting => s
  | .running | .lowPower => if s.link.up then s.frameWhileUp w else s.frameWhileDown w

/-- A frame that a gap of more than 2 ms ends early (R169), given the bytes that arrived: length, kind and so on. Where
the length had already sent it to LENGTH, or the lack of a place to OVERRUN, that is its cause. -/
def State.frameCut (s : State) (bytes : List Byte) : State :=
  match bytes with
  | [] => s.discardCrc false
  | [length] => if s.tooLong length then s.discardLength false else s.discardCrc false
  | length :: kind :: _ =>
    if s.tooLong length then s.discardLength (isLinkKind kind)
    else if !isLinkKind kind && s.placesFull then s.discardOverrun
    else s.discardCrc !isLinkKind kind

/-- A frame ends early; nothing is counted while DOWN, and nothing is received while STARTING (R170). -/
def State.frameEndsEarly (s : State) (bytes : List Byte) : State :=
  match s.part with
  | .starting => s
  | .running | .lowPower => if s.link.up then s.frameCut bytes else s

/-! ## The commands -/

/-- FRAME_RECEIVED (R169). -/
def execFrameReceived (w : WireFrame) (s : State) : Host.Outcome State Fault Refusal := .next (s.frameArrives w)

/-- FRAME_CRC_DISCARD (R169). -/
def execFrameCrcDiscard (w : WireFrame) (s : State) : Host.Outcome State Fault Refusal := .next (s.frameArrives w)

/-- INTER_BYTE_GAP_TIMEOUT (R169). -/
def execInterByteGapTimeout (bytes : List Byte) (s : State) : Host.Outcome State Fault Refusal :=
  .next (s.frameEndsEarly bytes)

/-- FRAME_LENGTH_DISCARD (R169). -/
def execFrameLengthDiscard (w : WireFrame) (s : State) : Host.Outcome State Fault Refusal := .next (s.frameArrives w)

/-- FRAME_OVERRUN_DISCARD (R169). -/
def execFrameOverrunDiscard (w : WireFrame) (s : State) : Host.Outcome State Fault Refusal := .next (s.frameArrives w)

/-- HELLO (R170). -/
def execHello (w : WireFrame) (s : State) : Host.Outcome State Fault Refusal := .next (s.frameArrives w)

/-- CREDIT (R171). -/
def execCredit (w : WireFrame) (s : State) : Host.Outcome State Fault Refusal := .next (s.frameArrives w)

/-- LINK_TIMEOUT: no good frame for 10 s (R170). -/
def execLinkTimeout (s : State) : Host.Outcome State Fault Refusal := .next (if s.link.up then s.linkDown else s)

/-- HELLO_SEND_TICK: once a second while DOWN and RUNNING (R170). -/
def execHelloSendTick (s : State) : Host.Outcome State Fault Refusal :=
  .next (if s.part = .running ∧ s.link.up = false then s.sendHello else s)

/-- CREDIT_IDLE_TIMEOUT: nothing sent for 2 s while UP; the part sends no frame in LOW_POWER (R170, R171). -/
def execCreditIdleTimeout (s : State) : Host.Outcome State Fault Refusal :=
  .next (if s.part = .running ∧ s.link.up = true ∧ s.link.eventInFlight = false then s.sendCredit else s)

/-- SEND_FRAME: the line is free (R177). -/
def execSendFrame (s : State) : Host.Outcome State Fault Refusal :=
  .next (if s.part = .running ∧ s.link.up = true ∧ s.link.eventInFlight = false then s.sendNext else s)

/-- EVENT_FRAME_SENT: the last byte of an EVENT frame has been sent, and its record leaves the journal (R177, R179). -/
def execEventFrameSent (s : State) : Host.Outcome State Fault Refusal :=
  .next
    (if s.link.eventInFlight then
      { s with journal := s.journal.tail, link := { s.link with eventInFlight := false } }
    else s)

end Sys2Proof.Machine
end

