-- ==== Sys2Proof/Machine/MusterPort.lean ====
section
/-! DEFINITION. The muster port (R160 to R162): the selector, ACCOUNT_ROOM and its kept answer, and the reads. -/

namespace Sys2Proof.Machine

/-! ## Writes -/

/-- ACCOUNT_ROOM's room is tested and, in MUSTER, cleared (R162): the state after and the kept answer. -/
def State.accountRoomPanel (s : State) (room : Byte) : State × List Byte :=
  match roomOfNat room.toNat with
  | none => (s, musterStatus 3)
  | some r =>
    if (s.room r).mode = .muster then
      (s.accountAll .panel (s.inRoom r), [0, BitVec.ofNat 8 (s.presentCount r)] ++ zeros 6)
    else (s, musterStatus 2)

/-- What an ACCOUNT_ROOM selector does when it is written, and the kept answer it leaves (R160, R162). -/
def State.accountOutcome (s : State) (room : Byte) : State × List Byte :=
  match s.part with
  | .starting => (s, musterStatus 6)
  | .lowPower => (s, musterStatus 7)
  | .running => s.accountRoomPanel room

/-- A write replaces the selector (R160); an ACCOUNT_ROOM selector acts (R162). -/
def State.writeSelector (s : State) (kind room ordinal : Byte) : State :=
  if kind.toNat = 3 then
    let x := s.accountOutcome room
    { x.1 with muster := { x.1.muster with kind := kind, room := room, ordinal := ordinal, kept := some x.2 } }
  else { s with muster := { s.muster with kind := kind, room := room, ordinal := ordinal, kept := none } }

/-- A write transaction at an address: three or more bytes replace the selector with the first three, fewer leave it; a
write to another address is not the part's (R160). -/
def State.musterWrite (s : State) (address : BitVec 7) (bytes : List Byte) : State :=
  if address = s.muster.address then
    match bytes with
    | kind :: room :: ordinal :: _ => s.writeSelector kind room ordinal
    | _ => s
  else s

/-! ## Reads -/

/-- The answer to a reading kind for a room number: RANGE above 15 (R160, R161). -/
def State.readingAnswer (s : State) (answer : RoomId → List Byte) : List Byte :=
  match roomOfNat s.muster.room.toNat with
  | none => musterStatus 3
  | some r => answer r

/-- The answer a read returns, the statuses in the order of R160. -/
def State.musterAnswer (s : State) : List Byte :=
  match s.part with
  | .starting => musterStatus 6
  | .lowPower => musterStatus 7
  | .running =>
    match s.muster.kind.toNat with
    | 1 => s.readingAnswer s.summaryAnswer
    | 2 => s.readingAnswer fun r => s.unaccountedAnswer r s.muster.ordinal.toNat
    | 3 => s.muster.kept.getD (musterStatus 2)
    | 4 => s.readingAnswer fun r => s.presentAnswer r s.muster.ordinal.toNat
    | _ => musterStatus 5

/-- A read transaction of `count` bytes: the answer, then 0 for each further byte; it changes nothing (R160). The model
keeps the bytes read. -/
def State.musterRead (s : State) (address : BitVec 7) (count : Nat) : State :=
  if address = s.muster.address then
    { s with muster := { s.muster with lastRead := (s.musterAnswer ++ zeros (count - 8)).take count } }
  else s

/-! ## The commands -/

/-- MUSTER_SELECTOR_WRITE (R160). -/
def execMusterSelectorWrite (address : BitVec 7) (bytes : List Byte) (s : State) : Host.Outcome State Fault Refusal :=
  .next (s.musterWrite address bytes)

/-- ACCOUNT_ROOM (R162): its selector is written. -/
def execAccountRoom (address : BitVec 7) (room ordinal : Byte) (s : State) : Host.Outcome State Fault Refusal :=
  .next (s.musterWrite address [3, room, ordinal])

/-- ROOM_SUMMARY (R161): a read of the answer to the selector. -/
def execRoomSummary (address : BitVec 7) (count : Nat) (s : State) : Host.Outcome State Fault Refusal :=
  .next (s.musterRead address count)

/-- UNACCOUNTED_ENTRY (R161): a read of the answer to the selector. -/
def execUnaccountedEntry (address : BitVec 7) (count : Nat) (s : State) : Host.Outcome State Fault Refusal :=
  .next (s.musterRead address count)

/-- PRESENT_ENTRY (R161): a read of the answer to the selector. -/
def execPresentEntry (address : BitVec 7) (count : Nat) (s : State) : Host.Outcome State Fault Refusal :=
  .next (s.musterRead address count)

end Sys2Proof.Machine
end

