-- ==== Sys2Proof/Machine/Permits.lean ====
section
/-! DEFINITION. The single-record permit commands (R6 to R14): SUSPEND, RESUME, REVOKE and REMOVE. -/

namespace Sys2Proof.Machine

/-- The PERMITS_APPLIED record of a single-record command (R7). -/
def appliedRecord (p : Permit) (d : AppliedDetail) : JournalEntry :=
  { kind := .permitsApplied, cred := some p.defn.cred, permit := some p.defn.number, detail := .applied d }

/-- A permit takes a state: the table, the store write, the store-pending flag and the journal record (R7). -/
def State.changePermit (s : State) (p : Permit) (next : PermitState) (d : AppliedDetail) : State :=
  ((s.updatePermit p.defn.number fun x => { x with state := next, storePending := true }).queueWrite
    (.version (.permit p.defn next))).write (appliedRecord p d)

/-- SUSPEND of the permit with this number (R8). -/
def State.suspendPermit (s : State) (n : PermitNo) : Answer :=
  match s.permit? n with
  | none => s.refuse .unknownPermit
  | some p => if p.state = .active then (s.changePermit p .suspended .suspend).okay else s.refuse .state

/-- RESUME of the permit with this number (R9). -/
def State.resumePermit (s : State) (n : PermitNo) : Answer :=
  match s.permit? n with
  | none => s.refuse .unknownPermit
  | some p => if p.state = .suspended then (s.changePermit p .active .resume).okay else s.refuse .state

/-- A record's covered list is emptied and its contractors go through escort loss, in list order (R12). -/
def State.loseCapacity (s : State) (o : Occupant) : State :=
  (s.updateRecord o.cred fun x => { x with covers := [] }).escortLoss (some o.cred) o.covers

/-- What a revocation does to the occupant record (R11, R12). -/
def State.revokeOccupant (s : State) (o : Occupant) : State := (s.curtail .revoked 600 o.cred).loseCapacity o

/-- REVOKE of the permit with this number (R10). -/
def State.revokePermit (s : State) (n : PermitNo) : Answer :=
  match s.permit? n with
  | none => s.refuse .unknownPermit
  | some p =>
    if p.state = .revoked then s.refuse .state
    else
      let t := s.changePermit p .revoked .revoke
      match s.occupantOf? n with
      | none => t.okay
      | some o => (t.revokeOccupant o).okay

/-- REMOVE of the permit with this number (R13). -/
def State.removePermit (s : State) (n : PermitNo) : Answer :=
  match s.permit? n with
  | none => s.refuse .unknownPermit
  | some p =>
    if (s.occupantOf? n).isSome then s.refuse .state
    else
      ((({ s with permits := s.permits.filter fun q => q.defn.number != n } : State).queueWrite
        (.retire (.permit n))).write (appliedRecord p .remove)).okay

/-! ## The commands -/

/-- SUSPEND (R8). -/
def execSuspend (tag : Byte) (n : PermitNo) (s : State) : Host.Outcome State Fault Refusal :=
  .next (s.takeCommand true tag (.suspend n) fun t => t.suspendPermit n)

/-- RESUME (R9). -/
def execResume (tag : Byte) (n : PermitNo) (s : State) : Host.Outcome State Fault Refusal :=
  .next (s.takeCommand true tag (.resume n) fun t => t.resumePermit n)

/-- REVOKE (R10). -/
def execRevoke (tag : Byte) (n : PermitNo) (s : State) : Host.Outcome State Fault Refusal :=
  .next (s.takeCommand true tag (.revoke n) fun t => t.revokePermit n)

/-- REMOVE (R13). -/
def execRemove (tag : Byte) (n : PermitNo) (s : State) : Host.Outcome State Fault Refusal :=
  .next (s.takeCommand true tag (.remove n) fun t => t.removePermit n)

end Sys2Proof.Machine
end

