-- ==== Sys2Proof/Machine/Queries.lean ====
section
/-! DEFINITION. The estate's queries (R24, R42, R57, R117) and the frames that spell no command (R173). -/

namespace Sys2Proof.Machine

/-- QUERY PERMIT (R24). -/
def State.askPermit (s : State) (n : PermitNo) : Answer :=
  match s.permit? n with
  | none => s.refuse .unknownPermit
  | some p => s.okayWith (s.permitFields p)

/-- QUERY ROSTER_ROOM (R117). -/
def State.askRoster (s : State) (room ordinal : Byte) : Answer :=
  match roomOfNat room.toNat with
  | none => s.refuse .unknownRoom
  | some r => s.okayWith (s.rosterFields r ordinal.toNat)

/-- QUERY DESCRIBE for a room (R42). -/
def State.askRoom (s : State) (room : Byte) : Answer :=
  match roomOfNat room.toNat with
  | none => s.refuse .unknownRoom
  | some r => s.okayWith (s.describeRoomFields r)

/-- QUERY DESCRIBE for a door (R42). -/
def State.askDoor (s : State) (door : Byte) : Answer :=
  match doorOfNat door.toNat with
  | none => s.refuse .range
  | some d => s.okayWith (s.describeDoorFields d)

/-- The group of a waiting frame of this kind is offered, and its first frame is exactly this one. -/
def State.offersFrame (s : State) (tag kind : Byte) (payload : List Byte) : Bool :=
  s.mayTake (isStoreKind kind) &&
    decide (firstOf (isStoreKind kind) s.link.places = some { kind := kind, tag := tag, payload := payload }) &&
    decide (decodeCommand kind payload = none)

/-! ## The commands -/

/-- QUERY STATUS (R57). -/
def execQueryStatus (tag : Byte) (s : State) : Host.Outcome State Fault Refusal :=
  .next (s.takeCommand false tag .queryStatus fun t => t.okayWith t.statusFields)

/-- QUERY PERMIT (R24). -/
def execQueryPermit (tag : Byte) (n : PermitNo) (s : State) : Host.Outcome State Fault Refusal :=
  .next (s.takeCommand false tag (.queryPermit n) fun t => t.askPermit n)

/-- QUERY ROSTER_ROOM (R117). -/
def execQueryRosterRoom (tag room ordinal : Byte) (s : State) : Host.Outcome State Fault Refusal :=
  .next (s.takeCommand false tag (.queryRosterRoom room ordinal) fun t => t.askRoster room ordinal)

/-- QUERY DESCRIBE for a room (R42). -/
def execQueryDescribeRoom (tag room : Byte) (s : State) : Host.Outcome State Fault Refusal :=
  .next (s.takeCommand false tag (.describeRoom room) fun t => t.askRoom room)

/-- QUERY DESCRIBE for a door (R42). -/
def execQueryDescribeDoor (tag door : Byte) (s : State) : Host.Outcome State Fault Refusal :=
  .next (s.takeCommand false tag (.describeDoor door) fun t => t.askDoor door)

/-- UNKNOWN_COMMAND: a good frame that spells no command is taken and refused RANGE, and has no other effect (R173); so is a
PERMIT or BATCH_CLOSE frame of a wrong length in every state of the batch machine (DESIGN CHOICE, log entry 61). -/
def execUnknownCommand (tag kind : Byte) (payload : List Byte) (s : State) : Host.Outcome State Fault Refusal :=
  .next (if s.offersFrame tag kind payload then (s.freePlace (isStoreKind kind)).reply tag .range [] else s)

end Sys2Proof.Machine
end

