-- ==== Sys2Proof/Machine/RoomsDoors.lean ====
section
/-! DEFINITION. The estate's room and door commands: ROOM_SET (R29, R30, R152), DOOR_SET (R39, R40), the variants of
ROOM_MODE (R32 to R35) and CLEAR_DOOR_ALARM (R37). -/

namespace Sys2Proof.Machine

/-! ## ROOM_SET -/

/-- Every settings field lies within its values (R27, R29). -/
def settingsInRange (st : RoomSettings) : Bool :=
  decide (1 ≤ st.maxOccupancy) && decide (st.maxOccupancy ≤ 24) &&
  decide (5 ≤ st.maxStay) && decide (st.maxStay ≤ 720) &&
  (decide (st.checkInterval = 0) || (decide (5 ≤ st.checkInterval) && decide (st.checkInterval ≤ 120))) &&
  decide (st.grace ≤ 60)

/-- The channel after a ROOM_SET (R30, R140): UNKNOWN, with no conversion yet, where it becomes enabled; without held class
and candidate, its most recent conversion kept, where it becomes or stays disabled (R136, R147); kept otherwise. -/
def channelAfter (c : Channel) (before after : RoomSettings) : Channel :=
  if channelEnabled after then
    if channelEnabled before then c
    else { held := some .unknown, candidate := none, lastValue := none, fromStart := false }
  else { Channel.disabled with lastValue := c.lastValue }

/-- A room taken into use while an evacuation is active becomes EVACUATING, its mode its prior mode (R152). -/
def State.joinEvacuation (s : State) (r : RoomId) : State :=
  (s.setRoom r { s.room r with mode := .evacuating, prior := (s.room r).mode }).notify r { kind := .evacRelease }

/-- A ROOM_SET that passes every test (R30). -/
def State.applySettings (s : State) (r : RoomId) (st : RoomSettings) : State :=
  let before := (s.room r).settings
  let t := ((s.setRoom r { s.room r with settings := st, doorAlarm := (s.room r).doorAlarm && st.inUse }).setChannel r
    (channelAfter (s.channel r) before st)).queueWrite (.version (.room r st))
  let u := t.write { kind := .permitsApplied, room := some r, detail := .applied .roomSet }
  if !before.inUse && st.inUse && u.evac.active then u.joinEvacuation r else u

/-- ROOM_SET's tests in their order (R29). -/
def State.setSettings (s : State) (room : Byte) (st : RoomSettings) : Answer :=
  match roomOfNat room.toNat with
  | none => s.refuse .unknownRoom
  | some r =>
    if !settingsInRange st then s.refuse .range
    else if 0 < s.presentCount r then s.refuse .state
    else if s.roomHasPairing r then s.refuse .state
    else if !(s.room r).mode.isOrdinary then s.refuse .state
    else (s.applySettings r st).okay

/-! ## DOOR_SET -/

/-- The doors mapped to a port, not counting one door (R39). -/
def State.portDoorsBut (s : State) (p : PortId) (d : DoorId) : Nat := ((s.doorsOfPort p).filter (· != d)).length

/-- The doors mapped to a room, not counting one door (R39). -/
def State.roomDoorsBut (s : State) (r : RoomId) (d : DoorId) : Nat := ((s.doorsOfRoom r).filter (· != d)).length

/-- A DOOR_SET that passes every test (R40). -/
def State.applyDoor (s : State) (d : DoorId) (m : Option DoorMapping) : State :=
  ((s.setDoor d m).queueWrite (.version (.door d m))).write
    { kind := .permitsApplied, door := some (doorByte d), detail := .doorSet (m.map fun x => (x.room, x.port)) }

/-- The door's old room is EVACUATING or MUSTER (R39). -/
def State.oldRoomCalled (s : State) (d : DoorId) : Bool :=
  match s.door d with
  | none => false
  | some m => !(s.room m.room).mode.isOrdinary

/-- DOOR_SET's tests of a door to be mapped (R39). -/
def State.mapDoor (s : State) (d : DoorId) (r : RoomId) (p : PortId) : Answer :=
  if (s.pairing d).isSome then s.refuse .state
  else if s.oldRoomCalled d || !(s.room r).mode.isOrdinary then s.refuse .state
  else if 8 ≤ s.portDoorsBut p d then s.refuse .range
  else if 4 ≤ s.roomDoorsBut r d then s.refuse .range
  else (s.applyDoor d (some { room := r, port := p })).okay

/-- DOOR_SET's tests of a door to be unmapped (R39). -/
def State.unmapDoor (s : State) (d : DoorId) : Answer :=
  if (s.pairing d).isSome then s.refuse .state
  else if s.oldRoomCalled d then s.refuse .state
  else (s.applyDoor d none).okay

/-- DOOR_SET (R39): a number out of range is refused RANGE first. -/
def State.setDoorMap (s : State) (door : Byte) (target : Option (Byte × Byte)) : Answer :=
  match doorOfNat door.toNat, target with
  | none, _ => s.refuse .range
  | some d, none => s.unmapDoor d
  | some d, some (room, port) =>
    match roomOfNat room.toNat, portOfNat port.toNat with
    | some r, some p => s.mapDoor d r p
    | none, _ => s.refuse .range
    | some _, none => s.refuse .range

/-! ## ROOM_MODE -/

/-- The ROOM_MODE record of a command (R32): the prior mode after is given where the room is EVACUATING or MUSTER. -/
def modeRecord (r : RoomId) (v : ModeDetail) (before after : Mode) (prior : Option Mode) : JournalEntry :=
  { kind := .roomMode, room := some r, detail := .roomMode v before after prior }

/-- OPEN, CLOSE and CLOSE_CLEAR up to the ROOM_MODE record: an IN_SERVICE or CLOSED room takes the mode and prior mode
(R33), an EVACUATING or MUSTER room the prior mode alone (R35). -/
def State.takeMode (s : State) (r : RoomId) (v : ModeDetail) (m : Mode) : State :=
  let x := s.room r
  if x.mode.isOrdinary then
    (s.setRoom r { x with mode := m, prior := m }).write (modeRecord r v x.mode m none)
  else (s.setPrior r m).write (modeRecord r v x.mode x.mode (some m))

/-- A change from IN_SERVICE to CLOSED cancels the room's pending pairings (R33, R34). -/
def State.closeRoom (s : State) (r : RoomId) (v : ModeDetail) : State :=
  let t := s.takeMode r v .closed
  if (s.room r).mode = .inService then t.endRoomPairings r .closed else t

/-- CLOSE_CLEAR closes and curtails every record of an IN_SERVICE or CLOSED room, in roster order (R35). -/
def State.closeClear (s : State) (r : RoomId) : State :=
  let t := s.closeRoom r .closeClear
  if (s.room r).mode.isOrdinary then ((t.inRoom r).map (·.cred)).foldl (State.curtail · .closure 900) t else t

/-- CLEAR_DOOR_ALARM (R37). -/
def State.clearAlarm (s : State) (r : RoomId) : State :=
  if (s.room r).doorAlarm then
    (s.setRoom r { s.room r with doorAlarm := false }).write
      { kind := .doorRestored, room := some r, detail := .source .estate }
  else s

/-- ROOM_MODE names a room in use, or is refused UNKNOWN_ROOM (R32). -/
def State.onRoomInUse (s : State) (room : Byte) (act : RoomId → State) : Answer :=
  match roomOfNat room.toNat with
  | none => s.refuse .unknownRoom
  | some r => if (s.room r).settings.inUse then (act r).okay else s.refuse .unknownRoom

/-! ## The commands -/

/-- ROOM_SET (R29). -/
def execRoomSet (tag room : Byte) (st : RoomSettings) (s : State) : Host.Outcome State Fault Refusal :=
  .next (s.takeCommand true tag (.roomSet room st) fun t => t.setSettings room st)

/-- DOOR_SET (R39). -/
def execDoorSet (tag door : Byte) (target : Option (Byte × Byte)) (s : State) : Host.Outcome State Fault Refusal :=
  .next (s.takeCommand true tag (.doorSet door target) fun t => t.setDoorMap door target)

/-- ROOM_MODE OPEN (R33, R35). -/
def execRoomModeOpen (tag room : Byte) (s : State) : Host.Outcome State Fault Refusal :=
  .next (s.takeCommand false tag (.roomModeOpen room) fun t => t.onRoomInUse room fun r => t.takeMode r .opened .inService)

/-- ROOM_MODE CLOSE (R33, R34, R35). -/
def execRoomModeClose (tag room : Byte) (s : State) : Host.Outcome State Fault Refusal :=
  .next (s.takeCommand false tag (.roomModeClose room) fun t => t.onRoomInUse room fun r => t.closeRoom r .closed)

/-- ROOM_MODE CLOSE_CLEAR (R35). -/
def execRoomModeCloseClear (tag room : Byte) (s : State) : Host.Outcome State Fault Refusal :=
  .next (s.takeCommand false tag (.roomModeCloseClear room) fun t => t.onRoomInUse room fun r => t.closeClear r)

/-- ROOM_MODE CLEAR_DOOR_ALARM (R37). -/
def execClearDoorAlarm (tag room : Byte) (s : State) : Host.Outcome State Fault Refusal :=
  .next (s.takeCommand false tag (.clearDoorAlarm room) fun t => t.onRoomInUse room fun r => t.clearAlarm r)

end Sys2Proof.Machine
end

