-- ==== Sys2Proof/Machine/Supply.lean ====
section
/-! DEFINITION. The flash engine's completions, the low-voltage warning and the snapshot (R183, R184), the device reset
(R185 and the values after reset of every chapter) and start-up (R186, R135, R159). -/

namespace Sys2Proof.Machine

/-! ## The warning and the recovery (R184) -/

/-- The snapshot of the state as it stands at the warning (R184). -/
def State.takeSnapshot (s : State) : Snapshot :=
  { clock := s.now
    records := s.roster.map fun o => (o, s.kindOf o)
    rooms := s.rooms.map fun x => (x.mode, x.prior, x.doorAlarm)
    hold := s.evac.hold
    used := (s.permits.filter fun p => p.used != 0).map fun p => (p.defn.number, p.used) }

/-- Every snapshot page is fully erased (R184). -/
def SnapArea.allErased (a : SnapArea) : Bool := (List.finRange 4).all fun k => a.erased.get k

/-- The candidates of the isolation channels and of the EVAC line are discarded (R137, R146). -/
def State.dropCandidates (s : State) : State :=
  { s with
    channels := s.channels.map fun c => { c with candidate := none }
    evac := { s.evac with candidate := none } }

/-- The snapshot is to be programmed and ended with the valid mark; where the area is not fully erased nothing is
programmed, what the snapshot writer still has to make stays, and SNAPSHOT_SKIPPED is journaled (R184). -/
def State.beginSnapshot (s : State) (sn : Snapshot) : State :=
  if s.snap.allErased then
    { s with snap := { s.snap with writer := [.snapProgram sn, .snapValid], begun := true } }
  else ({ s with snap := { s.snap with begun := false } } : State).write { kind := .snapshotSkipped }

/-- The monitor warns while the part is RUNNING (R184). -/
def State.warnRunning (s : State) : State :=
  let t := ({ s with supply := .warning, part := .lowPower, warnedRunning := true } : State).dropCandidates.abandonErase
  (t.beginSnapshot s.takeSnapshot).engineNext

/-- The monitor warns while the part is STARTING: no snapshot is written (R184). -/
def State.warnStarting (s : State) : State :=
  { s with supply := .warning, part := .lowPower, warnedRunning := false }

/-- The snapshot's program has not begun yet. -/
def SnapArea.unwritten (a : SnapArea) : Bool := a.writer.any fun op => op.snapshot?.isSome

/-- The snapshot of the warning in force is discarded, where one was begun: its consumed mark is to be programmed, and the
area's erase is requested. A snapshot whose program has not begun is simply not written, and a warning that wrote none
leaves what the snapshot writer still has to make (R184). -/
def State.discardSnapshot (s : State) : State :=
  if s.snap.begun = false then s
  else if s.snap.unwritten then { s with snap := { s.snap with writer := [], begun := false } }
  else { s with snap := { s.snap with writer := [.snapConsumed], begun := false, eraseRequested := true } }

/-- The part leaves LOW_POWER for RUNNING: a change to LOST still owed by the present second comes first (R45), due entries
are taken, and the write queue resumes (R184). -/
def State.resume (s : State) : State :=
  let t := s.discardSnapshot
  ((({ t with part := .running, evac := { t.evac with samples := 0 } } : State).becomeLost).takeDue).engineNext

/-! ## The device reset (R185) -/

/-- The channels at start-up: enabled ones UNKNOWN, their first change still to come (R136, R140, R145). -/
def channelsOf (rooms : Vector Room 16) : Vector Channel 16 :=
  rooms.map fun x =>
    if channelEnabled x.settings then { held := some .unknown, candidate := none, lastValue := none, fromStart := true }
    else .disabled

/-- The muster port's address, chosen by the strap pins as read at start-up (R160). -/
def strapAddress (straps : BitVec 2) : BitVec 7 := BitVec.ofNat 7 (0x4C + straps.toNat)

/-- The state from which the part starts, before START is journaled: every volatile block at its value after a device
reset, the tables rebuilt from the store. The waiting commands are the outside world's and stay. -/
def State.afterDeviceReset (s : State) (clock : Clock) (lost : Bool) (st : Store) (sn : SnapArea) : State :=
  { pending := s.pending
    part := .starting
    supply := .normal
    warnedRunning := false
    restored := false
    clock := clock
    backupLost := lost || s.backupLost
    permits := st.rebuildPermits
    rooms := st.rebuildRooms
    doors := st.rebuildDoors
    roster := []
    deadlines := []
    pairings := .replicate 32 none
    channels := channelsOf st.rebuildRooms
    evac := .afterReset
    ports := .replicate 4 .afterReset
    link := .afterReset
    batch := .idle
    journal := []
    gapPending := false
    store := st
    snap := { sn with writer := [], begun := false, toConsume := false, eraseRequested := false }
    muster := { Muster.afterReset with straps := s.muster.straps, address := strapAddress s.muster.straps }
    freeCount := s.freeCount + 1 }

/-- A device reset (R185): the flash operation in flight is cut short, the store is read, the tables are rebuilt, START is
journaled, and CLOCK (UNSET) after it where a backup loss is found (R55); the DAY entry is armed (R56), and the engine
begins start-up's retirements. -/
def State.deviceReset (s : State) (cause : ResetCause) (lost : Bool) : State :=
  let cut := cutOp (Config.cutShort s.freeCount) s.store s.snap
  let t := s.afterDeviceReset (if lost then .afterLoss else s.clock) lost cut.1.afterRead cut.2
  let u := t.write { kind := .start, detail := .cause cause }
  ((if lost then u.write { kind := .clock, detail := .clockStatus .unset } else u).armDay).engineNext

/-! ## Start-up (R186) -/

/-- A snapshot is valid when its valid mark is programmed and its consumed mark is not (R186). -/
def SnapArea.validSnapshot (a : SnapArea) : Option Snapshot := if a.valid && !a.consumed then a.content else none

/-- Step 1: modes, prior modes and door alarms of the rooms in use (R43). -/
def State.restoreRooms (s : State) (sn : Snapshot) : State :=
  allRooms.foldl (fun t r =>
    if (t.room r).settings.inUse then
      t.setRoom r { t.room r with
        mode := (sn.rooms.get r).1, prior := (sn.rooms.get r).2.1, doorAlarm := (sn.rooms.get r).2.2 }
    else t) s

/-- Steps 2 and 3: the evacuation hold, and used-today limited by each rebuilt budget (R26). -/
def State.restoreUsed (s : State) (sn : Snapshot) : State :=
  { s with
    evac := { s.evac with hold := sn.hold }
    permits := s.permits.map fun p =>
      match sn.used.find? fun u => u.1 == p.defn.number with
      | some u => { p with used := min u.2 (budgetCap p.defn) }
      | none => p }

/-- A record is restored where its permit is present with the same credential and kind, and its room in use (R186). -/
def State.restorable (s : State) (x : Occupant × PermitKind) : Bool :=
  match s.permit? x.1.permit with
  | none => false
  | some p => p.defn.cred == x.1.cred && p.defn.kind == x.2 && (s.room x.1.room).settings.inUse

/-- The records that remain where a room holds at most its maximum occupancy: the youngest are dropped (R186). `kept` are
the older records, in order. -/
def State.withinOccupancy (s : State) (kept : List Occupant) : List Occupant → List Occupant
  | [] => kept
  | o :: rest =>
    if (kept.filter fun x => x.room == o.room).length < (s.room o.room).settings.maxOccupancy then
      s.withinOccupancy (kept ++ [o]) rest
    else s.withinOccupancy kept rest

/-- The allowance end set to its limit: at most 60 times the rebuilt maximum stay after the entry time (R186). -/
def limitedEnd (entry ae maxStay : Nat) : Nat := min ae (addTime entry (60 * maxStay))

/-- A restored record's own fields (R186, R159): ARRIVING becomes INSIDE, the arrival open mark is clear, times are
rebased by `before` after a backup loss (R55), the allowance end is limited. -/
def State.restoredRecord (s : State) (before : Nat) (o : Occupant) : Occupant :=
  let entry := o.entryTime - before
  { o with
    state := if o.state = .arriving then .inside else o.state
    arrivalOpen := false
    entryTime := entry
    chargeStart := o.chargeStart - before
    allowanceEnd := limitedEnd entry (o.allowanceEnd - before) (s.room o.room).settings.maxStay
    evacTime := o.evacTime.map (· - before) }

/-- A record's rebuilt permit needs an escort (R135). -/
def State.needsEscort (s : State) (o : Occupant) : Bool :=
  match s.permit? o.permit with
  | none => false
  | some p => requiresEscort p.defn

/-- The covered list of a restored record (R135): links to contractors restored that still need an escort, cut to the
rebuilt cover limit; none without escort capacity. -/
def State.repairedCovers (s : State) (o : Occupant) : List Credential :=
  if s.escortCapacity o then
    (o.covers.filter fun c => (s.record? c).any s.needsEscort).take (s.coverLimit o)
  else []

/-- The covering escort of a restored record: kept where that escort still lists it (R135). -/
def State.repairedEscort (s : State) (o : Occupant) : Option Credential :=
  o.coveredBy.filter fun e => (s.record? e).any fun x => (s.repairedCovers x).contains o.cred

/-- A restored record's cover brought into line with the rebuilt permits (R135). -/
def State.repairedRecord (s : State) (o : Occupant) : Occupant :=
  let escort := s.repairedEscort o
  { o with
    covers := s.repairedCovers o
    coveredBy := escort
    uncovered := s.needsEscort o &&
      (o.uncovered || (escort.isNone && (s.room o.room).mode != .muster)) }

/-- Step 4: the roster records (R186), with cover repaired (R135). -/
def State.restoreRoster (s : State) (sn : Snapshot) : State :=
  let before := if s.backupLost then sn.clock else 0
  let records := s.withinOccupancy [] ((sn.records.filter s.restorable).map (·.1))
  let t : State := { s with roster := records.map (s.restoredRecord before) }
  { t with roster := t.roster.map t.repairedRecord }

/-- A room restored in MUSTER with no restored record takes its prior mode, with no notice (R159). -/
def State.leaveEmptyMuster (s : State) (r : RoomId) : State :=
  if (s.room r).mode = .muster ∧ s.presentCount r = 0 then
    (s.setMode r (s.room r).prior).write
      { kind := .roomMode, room := some r, detail := .musterCleared .muster (s.room r).prior }
  else s

/-- Step 5: the evacuation items (R159). Emptied MUSTER rooms are left in ascending order (DESIGN CHOICE, log entry 56). -/
def State.restoreEvacuation (s : State) : State :=
  let carry := s.roomsInUse.any fun r => (s.room r).mode == .evacuating
  allRooms.foldl State.leaveEmptyMuster { s with evac := { s.evac with carryOver := carry } }

/-- The deadline entries of one restored record (R116): its stage is set at now, with outputs where it is later than the
one held, and STAY and, alone in a room with a check interval, CHECK are armed. -/
def State.restoreDeadline (s : State) (c : Credential) : State :=
  match s.record? c with
  | none => s
  | some o =>
    let t := (s.takeStage o (s.stageNow o)).rearmStay c
    if t.presentCount o.room = 1 ∧ 0 < (t.room o.room).settings.checkInterval then t.armCheck o else t

/-- The INSIDE records of a room, where it is IN_SERVICE or CLOSED (R116). -/
def State.deadlineRecords (s : State) (r : RoomId) : List Credential :=
  if (s.room r).mode.isOrdinary then ((s.inRoom r).filter fun o => o.state == .inside).map (·.cred) else []

/-- Step 6: the deadline entries, room by room in ascending order, each room's records in their order (R186, R116). -/
def State.restoreDeadlines (s : State) : State :=
  (allRooms.flatMap s.deadlineRecords).foldl State.restoreDeadline s

/-- The roster is restored from a valid snapshot, whose consumed mark is then to be programmed, or is lost; the snapshot
area's erase is requested where the area is not fully erased (R186, log entry 12). -/
def State.restore (s : State) : State :=
  let t := match s.snap.validSnapshot with
    | none => s.write { kind := .rosterLost }
    | some sn => (((s.restoreRooms sn).restoreUsed sn).restoreRoster sn).restoreEvacuation.restoreDeadlines
  { t with
    restored := true
    snap := { t.snap with
      toConsume := t.snap.validSnapshot.isSome
      eraseRequested := !t.snap.allErased } }

/-- Nothing of start-up's own flash work is left: its retirements and the consumed mark are made (R185, R186). -/
def State.startUpSettled (s : State) : Bool :=
  s.store.engine.isNone && s.store.toRetire.isEmpty && !s.snap.toConsume

/-- The part becomes RUNNING (R186): R148 is applied (R159), a change to LOST still owed by the present second comes before
the due entries (R45, R49), and the engine is served. -/
def State.becomeRunning (s : State) : State :=
  let t : State :=
    { s with
      part := .running
      backupLost := false
      evac := { s.evac with samples := 0 } }
  t.evacRestore.becomeLost.takeDue.engineNext

/-- Start-up goes on (R186): the roster is restored where it has not been yet, and the part becomes RUNNING where none of
start-up's flash work is left; where some is, the engine makes it first (log entry 8). -/
def State.startUp (s : State) : State :=
  let t := if s.restored then s else s.restore
  if t.startUpSettled then t.becomeRunning else t.engineNext

/-! ## The commands -/

/-- FLASH_OPERATION_COMPLETE (R183). -/
def execFlashOperationComplete (s : State) : Host.Outcome State Fault Refusal := .next s.flashComplete

/-- LOW_VOLTAGE_WARNING (R184). -/
def execLowVoltageWarning (s : State) : Host.Outcome State Fault Refusal :=
  .next
    (match s.part with
    | .running => s.warnRunning
    | .starting => s.warnStarting
    | .lowPower => s)

/-- SUPPLY_RECOVERED (R184). -/
def execSupplyRecovered (s : State) : Host.Outcome State Fault Refusal :=
  .next
    (match s.part with
    | .lowPower =>
      let t : State := { s with supply := .normal }
      if s.warnedRunning then t.resume else ({ t with part := .starting } : State).engineNext
    | .running => s
    | .starting => s)

/-- DEVICE_RESET (R185). -/
def execDeviceReset (cause : ResetCause) (lost : Bool) (s : State) : Host.Outcome State Fault Refusal :=
  .next (s.deviceReset cause lost)

/-- STARTUP_RUNNING (R186). -/
def execStartupRunning (s : State) : Host.Outcome State Fault Refusal :=
  .next (if s.part = .starting then s.startUp else s)

end Sys2Proof.Machine
end

