-- ==== Sys2Proof/Machine/Dispatch.lean ====
section
/-! DEFINITION. Every command to its meaning: one arm per constructor, one direct call each. -/

namespace Sys2Proof.Machine

/-- A command's effect on everything but the queue of waiting commands. -/
def exec (i : Instr) (s : State) : Host.Outcome State Fault Refusal :=
  match i with
  | .presentIn port x => Sys2Proof.Machine.execPresentIn port x s
  | .presentOut port x => Sys2Proof.Machine.execPresentOut port x s
  | .checkIn port x => Sys2Proof.Machine.execCheckIn port x s
  | .arrivalPassed port x => Sys2Proof.Machine.execArrivalPassed port x s
  | .arrivalNotPassed port x => Sys2Proof.Machine.execArrivalNotPassed port x s
  | .doorAlarmForced port x => Sys2Proof.Machine.execDoorAlarmForced port x s
  | .doorAlarmHeld port x => Sys2Proof.Machine.execDoorAlarmHeld port x s
  | .doorAlarmRestored port x => Sys2Proof.Machine.execDoorAlarmRestored port x s
  | .read port x => Sys2Proof.Machine.execRead port x s
  | .portReset port x => Sys2Proof.Machine.execPortReset port x s
  | .frameReceived w => Sys2Proof.Machine.execFrameReceived w s
  | .frameCrcDiscard w => Sys2Proof.Machine.execFrameCrcDiscard w s
  | .interByteGapTimeout bytes => Sys2Proof.Machine.execInterByteGapTimeout bytes s
  | .frameLengthDiscard w => Sys2Proof.Machine.execFrameLengthDiscard w s
  | .frameOverrunDiscard w => Sys2Proof.Machine.execFrameOverrunDiscard w s
  | .hello w => Sys2Proof.Machine.execHello w s
  | .credit w => Sys2Proof.Machine.execCredit w s
  | .linkTimeout => Sys2Proof.Machine.execLinkTimeout s
  | .helloSendTick => Sys2Proof.Machine.execHelloSendTick s
  | .creditIdleTimeout => Sys2Proof.Machine.execCreditIdleTimeout s
  | .sendFrame => Sys2Proof.Machine.execSendFrame s
  | .eventFrameSent => Sys2Proof.Machine.execEventFrameSent s
  | .time tag mark => Sys2Proof.Machine.execTime tag mark s
  | .suspend tag number => Sys2Proof.Machine.execSuspend tag number s
  | .resume tag number => Sys2Proof.Machine.execResume tag number s
  | .revoke tag number => Sys2Proof.Machine.execRevoke tag number s
  | .remove tag number => Sys2Proof.Machine.execRemove tag number s
  | .roomSet tag room settings => Sys2Proof.Machine.execRoomSet tag room settings s
  | .doorSet tag door target => Sys2Proof.Machine.execDoorSet tag door target s
  | .roomModeOpen tag room => Sys2Proof.Machine.execRoomModeOpen tag room s
  | .roomModeClose tag room => Sys2Proof.Machine.execRoomModeClose tag room s
  | .roomModeCloseClear tag room => Sys2Proof.Machine.execRoomModeCloseClear tag room s
  | .clearDoorAlarm tag room => Sys2Proof.Machine.execClearDoorAlarm tag room s
  | .evacuateStart tag => Sys2Proof.Machine.execEvacuateStart tag s
  | .evacuateEnd tag => Sys2Proof.Machine.execEvacuateEnd tag s
  | .extend tag cred => Sys2Proof.Machine.execExtend tag cred s
  | .release tag cred => Sys2Proof.Machine.execRelease tag cred s
  | .accountCredential tag cred => Sys2Proof.Machine.execAccountCredential tag cred s
  | .accountRoomEstate tag room => Sys2Proof.Machine.execAccountRoomEstate tag room s
  | .queryStatus tag => Sys2Proof.Machine.execQueryStatus tag s
  | .queryPermit tag number => Sys2Proof.Machine.execQueryPermit tag number s
  | .queryRosterRoom tag room ordinal => Sys2Proof.Machine.execQueryRosterRoom tag room ordinal s
  | .queryDescribeRoom tag room => Sys2Proof.Machine.execQueryDescribeRoom tag room s
  | .queryDescribeDoor tag door => Sys2Proof.Machine.execQueryDescribeDoor tag door s
  | .batchOpen tag id count => Sys2Proof.Machine.execBatchOpen tag id count s
  | .permit tag payload => Sys2Proof.Machine.execPermit tag payload s
  | .batchClose tag check => Sys2Proof.Machine.execBatchClose tag check s
  | .batchAbort tag => Sys2Proof.Machine.execBatchAbort tag s
  | .unknownCommand tag kind payload => Sys2Proof.Machine.execUnknownCommand tag kind payload s
  | .clockSecond => Sys2Proof.Machine.execClockSecond s
  | .clockLost => Sys2Proof.Machine.execClockLost s
  | .stayEntry cred => Sys2Proof.Machine.execStayEntry cred s
  | .arriveEntry cred => Sys2Proof.Machine.execArriveEntry cred s
  | .checkEntry cred => Sys2Proof.Machine.execCheckEntry cred s
  | .pairEntry door => Sys2Proof.Machine.execPairEntry door s
  | .dayEntry => Sys2Proof.Machine.execDayEntry s
  | .isolationScan values => Sys2Proof.Machine.execIsolationScan values s
  | .evacSample low => Sys2Proof.Machine.execEvacSample low s
  | .musterSelectorWrite address bytes => Sys2Proof.Machine.execMusterSelectorWrite address bytes s
  | .accountRoom address room ordinal => Sys2Proof.Machine.execAccountRoom address room ordinal s
  | .roomSummary address count => Sys2Proof.Machine.execRoomSummary address count s
  | .unaccountedEntry address count => Sys2Proof.Machine.execUnaccountedEntry address count s
  | .presentEntry address count => Sys2Proof.Machine.execPresentEntry address count s
  | .flashOperationComplete => Sys2Proof.Machine.execFlashOperationComplete s
  | .lowVoltageWarning => Sys2Proof.Machine.execLowVoltageWarning s
  | .supplyRecovered => Sys2Proof.Machine.execSupplyRecovered s
  | .deviceReset cause backupLost => Sys2Proof.Machine.execDeviceReset cause backupLost s
  | .startupRunning => Sys2Proof.Machine.execStartupRunning s

end Sys2Proof.Machine
end

