-- ==== Sys2Proof/Safety.lean ====
section
/-! DEFINITION. The laws of the part, as conditions on a state: what the manual calls "a law of the part", and the
conditions on held state that those laws rest on. -/

namespace Sys2Proof.Machine

/-! ## The clock, the journal, the evacuation logic -/

/-- The clock's items lie within their values (R44, R45). -/
def State.clockLaw (s : State) : Prop := s.clock.value ≤ Config.timeMax ∧ s.clock.elapsed ≤ Config.elapsedMax

/-- The journal holds at most 256 records (R179). -/
def State.journalLaw (s : State) : Prop := s.journal.length ≤ Config.journalMax

/-- The part has not started up since its last device reset: it is STARTING, or in a LOW_POWER that began while it was
STARTING (R184, R185). -/
def State.notStarted (s : State) : Prop := s.part = .starting ∨ (s.part = .lowPower ∧ s.warnedRunning = false)

/-- Once the part has started up, the evacuation is active while the EVAC held level is ACTIVE, the hold is set or the
carry-over is set, and not active while all three are false (R148); before that it is not active, R148 being applied to the
restored items when the part becomes RUNNING (R159). -/
def State.evacLaw (s : State) : Prop :=
  (s.notStarted → s.evac.active = false) ∧ (¬ s.notStarted → s.evac.active = s.evac.called)

/-! ## The tables -/

/-- Every permit's used-today lies between 0 and its daily budget, or 1440 where it has none (R21). -/
def State.usedLaw (s : State) : Prop := ∀ p ∈ s.permits, p.used ≤ budgetCap p.defn

/-- Permit numbers are unique in the table (R5). -/
def State.permitLaw (s : State) : Prop := (s.permits.map fun p => p.defn.number).Nodup

/-- The permit table holds at most 1024 records, and at most 8 share a credential (R5). -/
def State.limitLaw (s : State) : Prop :=
  s.permits.length ≤ Config.permitsMax ∧
    ∀ m ∈ s.permits, (s.permits.filter fun p => p.defn.cred == m.defn.cred).length ≤ Config.permitsPerCredential

/-- The permit definition a stored definition holds. -/
def Defn.permit? : Defn → Option PermitDef
  | .permit d _ => some d
  | .room _ _ => none
  | .door _ _ => none

/-- The definition an operation programs into a slot. -/
def FlashOp.defn? : FlashOp → Option Defn
  | .program _ d _ => some d
  | .copy _ _ d _ => some d
  | _ => none

/-- The definition a slot holds. -/
def Slot.defn? : Slot → Option Defn
  | .written d _ _ => some d
  | .retired => none

/-- The definition a write queue entry is to program. -/
def WriteEntry.defn? (e : WriteEntry) : Option Defn :=
  match e.job with
  | .version d => some d
  | .retire _ => none

/-- Every definition the store holds, is programming or is still to program. -/
def State.storedDefinitions (s : State) : List Defn :=
  s.store.slots.filterMap (fun x => x.2.defn?) ++
    (s.store.queue ++ s.batch.unqueued).filterMap WriteEntry.defn? ++ (s.store.engine.bind FlashOp.defn?).toList

/-- Only well-formed permit definitions are in the permit table, in the store and among a batch's staged records (R3). -/
def State.definedLaw (s : State) : Prop :=
  (∀ m ∈ s.permits, m.defn.wellFormed = true) ∧
    (∀ d ∈ s.storedDefinitions.filterMap Defn.permit?, d.wellFormed = true) ∧
      ∀ d ∈ s.batch.staging.filterMap id, d.wellFormed = true

/-- A mode and prior mode that a room may hold (R27, R31): the prior mode is IN_SERVICE or CLOSED, and while the mode is
IN_SERVICE or CLOSED the prior mode holds the same value. -/
def modesAgree (mode prior : Mode) : Bool := prior.isOrdinary && (!mode.isOrdinary || mode == prior)

/-- Every room's mode and prior mode agree (R31). -/
def State.modeLaw (s : State) : Prop := ∀ r : RoomId, modesAgree (s.room r).mode (s.room r).prior = true

/-- A snapshot's room modes agree with the prior modes (R31). -/
def Snapshot.modeLaw (sn : Snapshot) : Prop := ∀ r : RoomId, modesAgree (sn.rooms.get r).1 (sn.rooms.get r).2.1 = true

/-- Every snapshot the part holds, is programming or is about to program. -/
def State.snapshots (s : State) : List Snapshot :=
  s.snap.content.toList ++ s.snap.writer.filterMap FlashOp.snapshot? ++
    (s.store.engine.bind FlashOp.snapshot?).toList

/-- The mode law of the rooms and of every snapshot, from which start-up restores them (R31, R186). -/
def State.modesLaw (s : State) : Prop := s.modeLaw ∧ ∀ sn ∈ s.snapshots, sn.modeLaw

/-- The roster holds at most 96 records, and so does every snapshot (R90, R184). -/
def State.rosterLaw (s : State) : Prop :=
  s.roster.length ≤ Config.rosterMax ∧ ∀ sn ∈ s.snapshots, sn.records.length ≤ Config.rosterMax

/-! ## The deadline queue -/

/-- Entries are in order of due time, earliest first (R114). -/
def deadlinesSorted (q : List Deadline) : Prop := q.Pairwise fun a b => a.due ≤ b.due

/-- No owner's slot holds two entries (R113). -/
def deadlinesDistinct (q : List Deadline) : Prop := q.Pairwise fun a b => a.owner.sameSlot b.owner = false

/-- While the budget day is absent the queue holds no DAY entry, and while the status is UNSET the budget day is absent
(R47, R52). -/
def State.dayLaw (s : State) : Prop :=
  (s.clock.status = .unset → s.clock.budgetDay = none) ∧
    (s.clock.budgetDay = none → ∀ e ∈ s.deadlines, e.owner ≠ .day)

/-- The deadline queue's order, its slots and its DAY entry (R113, R114, R52). -/
def State.deadlineLaw (s : State) : Prop :=
  deadlinesSorted s.deadlines ∧ deadlinesDistinct s.deadlines ∧ s.dayLaw

/-- While the budget day is present, a DAY entry stands in the queue, due at the start of the day after it; where that time is
past the last estate time, none does (R52). -/
def State.dayArmedLaw (s : State) : Prop :=
  ∀ day ∈ s.clock.budgetDay,
    (Config.daySeconds * (day + 1) ≤ Config.timeMax →
      { due := Config.daySeconds * (day + 1), owner := .day } ∈ s.deadlines) ∧
    (Config.timeMax < Config.daySeconds * (day + 1) → ∀ e ∈ s.deadlines, e.owner ≠ .day)

/-! ## The ports and the link -/

/-- A port's queue and the decisions owed to it fill at most its 16 places, so a decision always finds a place (R165). -/
def State.portLaw (s : State) : Prop :=
  ∀ p : PortId, (s.port p).queue.length + s.owedDecisions p ≤ Config.portPlaces

/-- The credits held are at or below the gateway's declared count, and at most 8 frames wait (R169, R171). -/
def State.linkLaw (s : State) : Prop :=
  s.link.credits ≤ s.link.declared ∧ s.link.places.length ≤ Config.receivePlaces

/-! ## The store -/

/-- What an applied batch queues is a version write (R16). -/
def WriteEntry.proper (e : WriteEntry) : Bool :=
  match e.job with
  | .version _ => true
  | .retire _ => !e.fromBatch

/-- The write queue holds at most 32 entries, and is full while an applied batch has writes still to be queued; a batch's
entries are version writes (R16, R175, R182). -/
def State.queueLaw (s : State) : Prop :=
  s.store.queue.length ≤ Config.writeQueueMax ∧
    (s.batch.unqueued ≠ [] → s.store.queue.length = Config.writeQueueMax) ∧
    ∀ e ∈ s.store.queue ++ s.batch.unqueued, e.proper = true

/-- The slot an operation acts on lies in the main area. -/
def FlashOp.inside : FlashOp → Bool
  | .program addr _ _ => decide (addr < Config.storeSlots)
  | .retire addr => decide (addr < Config.storeSlots)
  | .retireStale addr => decide (addr < Config.storeSlots)
  | .copy src dst _ _ => decide (src < Config.storeSlots) && decide (dst < Config.storeSlots)
  | .mark _ => true
  | .erase _ => true
  | .snapProgram _ => true
  | .snapValid => true
  | .snapConsumed => true
  | .snapErase _ => true

/-- An operation of the snapshot writer (R183, R184). -/
def FlashOp.ofSnapshot : FlashOp → Bool
  | .snapProgram _ => true
  | .snapValid => true
  | .snapConsumed => true
  | _ => false

/-- The slots keep their canonical form, what the engine, the head entry and start-up still have to do lies in the main
area, and the snapshot writer has snapshot operations only (R182 to R185). -/
def State.slotLaw (s : State) : Prop :=
  slotsWf s.store.slots = true ∧ (∀ op ∈ s.store.engine, op.inside = true) ∧
    (∀ a ∈ s.store.headPrevious, a < Config.storeSlots) ∧ (∀ a ∈ s.store.toRetire, a < Config.storeSlots) ∧
    ∀ op ∈ s.snap.writer, op.ofSnapshot = true

/-- The page an erase is in flight on is DIRTY, and so is the page of a compaction whose erase-started mark has been
programmed; a mark in flight is that of the page in hand (R182). -/
def State.eraseLaw (s : State) : Prop :=
  (∀ page, s.store.engine = some (.erase page) → page ∈ s.store.dirty) ∧
    (∀ job ∈ s.store.compaction, job.marked = true → job.page ∈ s.store.dirty) ∧
    ∀ page, s.store.engine = some (.mark page) → ∀ job ∈ s.store.compaction, job.page = page

/-! ## The roster -/

/-- A record may stand in its room's mode (R91, R156): MUSTER holds UNACCOUNTED records only, EVACUATING no ARRIVING
record, IN_SERVICE and CLOSED no UNACCOUNTED record. -/
def mayStand (m : Mode) (st : OccState) : Bool :=
  match m, st with
  | .muster, .unaccounted => true
  | .muster, _ => false
  | .evacuating, .arriving => false
  | .evacuating, _ => true
  | .inService, .unaccounted => false
  | .closed, .unaccounted => false
  | .inService, _ => true
  | .closed, _ => true

/-- Every record of a snapshot may stand in its room's mode (R156, R184). -/
def Snapshot.standLaw (sn : Snapshot) : Prop :=
  ∀ x ∈ sn.records, mayStand (sn.rooms.get x.1.room).1 x.1.state = true

/-- Every record may stand in its room's mode (R156), and so may every snapshot's; an ARRIVE entry belongs to an ARRIVING
record (R91) and a CHECK entry to a record of a room with a check interval (R129); before start-up has
restored the roster only the DAY entry may be armed (R116). -/
def State.standLaw (s : State) : Prop :=
  (∀ o ∈ s.roster, mayStand (s.room o.room).mode o.state = true) ∧
  (∀ sn ∈ s.snapshots, sn.standLaw) ∧
  (∀ e ∈ s.deadlines, ∀ c : Credential, e.owner = .arrive c → ∃ o ∈ s.roster, o.cred = c ∧ o.state = .arriving) ∧
  (∀ e ∈ s.deadlines, ∀ c : Credential, e.owner = .check c →
    ∃ o ∈ s.roster, o.cred = c ∧ 0 < (s.room o.room).settings.checkInterval) ∧
  (s.notStarted → s.restored = false → ∀ e ∈ s.deadlines, e.owner = .day)

/-- No room holds more records than its maximum occupancy (R90). -/
def State.occupancyLaw (s : State) : Prop := ∀ r : RoomId, s.presentCount r ≤ (s.room r).settings.maxOccupancy

/-- Every record refers to a permit that is present and carries the record's credential (R5, R14). -/
def State.referLaw (s : State) : Prop := ∀ o ∈ s.roster, ∃ m ∈ s.permit? o.permit, m.defn.cred = o.cred

/-- Two records that a cover link may join: of one room, both ARRIVING or INSIDE (R119). -/
def mayLink (o x : Occupant) : Bool := o.room == x.room && o.state.isPresent && x.state.isPresent

/-- Cover links are kept in step (R119): a covered list names no record twice and only records that name its holder as
their covering escort, a covering escort lists its contractor, a link joins two records of one room that are ARRIVING or
INSIDE, and a record with the uncovered mark has no covering escort (R125). -/
def linksInStep (l : List Occupant) : Prop :=
  ∀ o ∈ l,
    o.covers.Nodup ∧
    (∀ c ∈ o.covers, ∃ x ∈ l, x.cred = c ∧ x.coveredBy = some o.cred ∧ mayLink o x = true) ∧
    (∀ e ∈ o.coveredBy, ∃ x ∈ l, x.cred = e ∧ o.cred ∈ x.covers) ∧
    (o.uncovered = true → o.coveredBy = none)

/-- The cover of the roster (R119, R125): the links are in step; a covered list is as long as its permit's cover limit at
most, and only an escort with escort capacity has one; a covered or marked record that is ARRIVING or INSIDE is a
contractor whose permit requires an escort, and every such contractor is covered or carries the uncovered mark. The links
of every snapshot are in step. -/
def State.coverLaw (s : State) : Prop :=
  linksInStep s.roster ∧
  (∀ o ∈ s.roster,
    o.covers.length ≤ s.coverLimit o ∧ (o.covers ≠ [] → s.escortCapacity o = true) ∧
    (o.state.isPresent = true →
      ((o.coveredBy.isSome || o.uncovered) = true ↔
        (s.permit? o.permit).any (fun m => requiresEscort m.defn) = true))) ∧
  ∀ sn ∈ s.snapshots, linksInStep (sn.records.map fun x => x.1)

/-- Every record's allowance is at most 60 times its room's maximum continuous stay (R112). -/
def State.allowanceLaw (s : State) : Prop :=
  ∀ o ∈ s.roster, o.allowanceEnd - o.entryTime ≤ 60 * (s.room o.room).settings.maxStay

/-- A credential has at most one roster record (R90), in every snapshot too, at most one pending pairing (R81), and not
both (R60, R81); before start-up no pairing is pending (R81). -/
def State.personLaw (s : State) : Prop :=
  (s.roster.map fun o => o.cred).Nodup ∧
  (∀ d e : DoorId, ∀ q ∈ s.pairing d, ∀ p ∈ s.pairing e, q.cred = p.cred → d = e) ∧
  (∀ d : DoorId, ∀ q ∈ s.pairing d, ∀ o ∈ s.roster, o.cred ≠ q.cred) ∧
  (∀ sn ∈ s.snapshots, (sn.records.map fun x => x.1.cred).Nodup) ∧
  (s.notStarted → ∀ d : DoorId, s.pairing d = none)

end Sys2Proof.Machine
end

