-- ==== Sys2Proof/Certificates/Slice0/Obligations.lean ====
section
/-! DEFINITION. The statements for the provers, and the words they are written in (`Sys2Proof.Claims`). -/

namespace Sys2Proof.Claims

open Sys2Proof.Machine

/-! ## The words of the statements -/

/-- The journal of `t` is that of `s` after one record has been written to it, and nothing more (R180). -/
def Journaled (s t : State) (e : JournalEntry) : Prop :=
  t.journal = (s.write e).journal ∧ t.gapPending = (s.write e).gapPending

/-- Among the records the journal of `t` holds beyond that of `s` stands one written by this rule at the present time. -/
def Wrote (s t : State) (e : JournalEntry) : Prop :=
  ∃ j ∈ t.journal.drop s.journal.length, j.entry = e ∧ j.time = s.now

/-- Items are only added, at the tails of the outbound queues (R165). -/
def QueuesGrew (s t : State) : Prop := ∀ p : PortId, (s.port p).queue <+: (t.port p).queue

/-- An exchange that carries a whole request frame with a right check, whatever bytes follow the check (R164). -/
def frameOf (code : Nat) (door : Byte) (payload extra : List Byte) : Exchange :=
  { sdi := requestFrame code door payload ++ extra, tooSoon := false }

/-- A request needing so many uncommitted places is taken now (R163, R165). -/
def CanTake (s : State) (p : PortId) (places : Nat) : Prop := s.part = .running ∧ places ≤ s.uncommitted p

/-- The port after a request has been taken and has placed these items there (R163, R165); the status byte and the shifted
bytes are the model's own record of the lines (log entry 39). -/
def portTaken (s : State) (p : PortId) (items : List Item) : State :=
  s.setPort p
    { queue := (s.port p).queue ++ items, outcome := .taken, lastStatus := s.statusByte p, lastShift := [] }

/-- The link after the command waiting first in its group has been taken and answered (R171, R172, R173). -/
def answered (s : State) (store : Bool) (tag : Byte) (result : ReplyResult) (fields : List Byte) : Link :=
  { s.link with
    places := dropFirst store s.link.places
    owed := s.link.owed + 1
    replies := s.link.replies ++ [.reply tag result fields] }

/-- The link after the command waiting first in its group has been taken without an answer (R171, R174). -/
def takenOnly (s : State) (store : Bool) : Link :=
  { s.link with places := dropFirst store s.link.places, owed := s.link.owed + 1 }

/-- A permit record without its store-pending flag. -/
def shown (p : Permit) : Permit := { p with storePending := false }

/-- What cover, curtailment, the stages and the lone alarm leave of an occupant record as it is. -/
def person (o : Occupant) : Occupant :=
  { o with
    allowanceEnd := 0
    stage := .within
    loneAlarm := false
    uncovered := false
    coveredBy := none
    covers := [] }

/-- The permit table after a stay has been charged to a permit (R102). -/
def chargedTo (s : State) (n : PermitNo) (minutes : Nat) : List Permit :=
  s.permits.map fun p => if p.defn.number = n then { p with used := min (budgetCap p.defn) (p.used + minutes) } else p

/-- No record of the credential, and no STAY or WATCH entry of it (R100). -/
def Gone (t : State) (c : Credential) : Prop :=
  (∀ o ∈ t.roster, o.cred ≠ c) ∧ ∀ e ∈ t.deadlines, e.owner.ofRecord c = false

/-- The records of the others are those that were, in the same order. -/
def OthersStay (s t : State) (c : Credential) : Prop :=
  t.roster.map person = (s.roster.filter fun o => o.cred != c).map person

/-- A queued write of one definition that no batch asked for (R182). -/
def writeOf (d : Defn) : WriteEntry := { job := .version d, fromBatch := false }

/-- A queued retirement (R182). -/
def retireOf (k : Key) : WriteEntry := { job := .retire k, fromBatch := false }

/-- The ten requests of a port with their kind code, payload length, the row's own payload value where it has one, and the
uncommitted places the queue test asks for (R164, R165). -/
def portRequests (p : PortId) (x : Exchange) : List (Instr × Nat × Nat × Option (Nat × Nat) × Nat) :=
  [(.presentIn p x, 1, 5, none, 2), (.presentOut p x, 2, 5, none, 1), (.checkIn p x, 3, 5, none, 1),
   (.arrivalPassed p x, 4, 6, some (5, 1), 0), (.arrivalNotPassed p x, 4, 6, some (5, 2), 0),
   (.doorAlarmForced p x, 5, 1, some (0, 1), 0), (.doorAlarmHeld p x, 5, 1, some (0, 2), 0),
   (.doorAlarmRestored p x, 5, 1, some (0, 3), 0), (.read p x, 6, 0, none, 0), (.portReset p x, 7, 0, none, 0)]

/-- The held outcome that an exchange taking no request leaves; none where its request is taken (R163 to R165). -/
def notTaken (s : State) (p : PortId) (x : Exchange) (code len : Nat) (value : Option (Nat × Nat)) (places : Nat) :
    Option PortOutcome :=
  if x.isPoll then some (s.port p).outcome
  else
    match s.part with
    | .starting => some .starting
    | .lowPower => some .lowPower
    | .running =>
      match requestOf code len value x with
      | none => some .badFrame
      | some _ => if places ≤ s.uncommitted p then none else some .notTakenFull

/-- The reason a room's mode gives at steps 3 and 4 (R63). -/
def modeRefusal : Mode → Option Reason
  | .inService => none
  | .closed => some .closed
  | .evacuating => some .evac
  | .muster => some .muster

/-- The REFUSE record of a presentation that receives its refusal at once (R59). -/
def refuseEntry (r : Option RoomId) (door : Byte) (c : Credential) (reason : Reason) (n : Option PermitNo) : JournalEntry :=
  { kind := .refuse, room := r, door := some door, cred := some c, permit := n, detail := .refusal reason none }

/-- The GRANT record (R59). -/
def grantEntry (r : RoomId) (d : DoorId) (c : Credential) (n : PermitNo) (a : Nat) : JournalEntry :=
  { kind := .grant, room := some r, door := some (doorByte d), cred := some c, permit := some n,
    detail := .minutes (a / 60) }

/-- A record as its grant makes it, before its cover (R77). -/
def grantedAs (s : State) (c : Credential) (n : PermitNo) (r : RoomId) (d : DoorId) (a : Nat) : Occupant :=
  { cred := c, permit := n, room := r, entryDoor := d, state := .arriving, entryTime := s.now, chargeStart := s.now
    allowanceEnd := min (s.now + a) 4294967295
    stage := if 300 < a then .within else .due
    loneAlarm := false, uncovered := false, coveredBy := none, covers := [], evacTime := none, arrivalOpen := false }

/-- The GRANT item: the allowance in minutes, SHORT where it is exactly 5 minutes (R78). -/
def grantItem (d : DoorId) (c : Credential) (a : Nat) : Item :=
  .decision (doorByte d) c (.grant (a / 60) (decide (a = 300)))

/-- The needs of a presenter with a chosen permit (R76). -/
def needs (s : State) (r : RoomId) (p : Permit) : Need :=
  { escort := p.defn.kind == .contractor && p.defn.requirement == .escort && (s.oldestEscort r).isNone
    partner := (s.room r).settings.presence == .paired && s.presentCount r == 0 }

/-- An IN presentation by a credential that stands nowhere, at a door of an IN_SERVICE room in use with room for one more,
which steps 1 to 13 pass with this permit and allowance (R60). -/
structure Admissible (s : State) (p : PortId) (r : RoomId) (d : DoorId) (c : Credential) (m : Permit) (a : Nat) : Prop
    where
  taken : CanTake s p 2
  door : s.door d = some { room := r, port := p }
  inUse : (s.room r).settings.inUse = true
  mode : (s.room r).mode = .inService
  person : s.record? c = none
  pairing : s.pairingDoor c = none
  chosen : s.decidePerson r c = .chosen m a
  room : s.presentCount r < (s.room r).settings.maxOccupancy
  roster : s.roster.length < 96

/-- An entry of the queue with this owner and due time. -/
def Armed (t : State) (o : Owner) (due : EstateTime) : Prop := { due := due, owner := o } ∈ t.deadlines

/-- A link frame's bytes as they go on the line (R169, R187, 13.3): start byte, length, kind, tag, credit-return count and
payload, then the CRC-16 of all but the start byte, least significant byte first. -/
def frameBytes (kind : Nat) (tag : Byte) (returned : Nat) (payload : List Byte) : List Byte :=
  let body := [BitVec.ofNat 8 payload.length, BitVec.ofNat 8 kind, tag, BitVec.ofNat 8 returned] ++ payload
  let check := (crc16 0xFFFF body).toNat
  [0x7E] ++ body ++ [BitVec.ofNat 8 (check % 256), BitVec.ofNat 8 (check / 256)]

/-- The link after a frame has begun to be sent (R171); at most 255 credits go back in one frame, which is the model's
choice (log entry 25). -/
def sent (l : Link) (kind : Nat) (tag : Byte) (payload : List Byte) : Link :=
  { l with owed := l.owed - min l.owed 255, lastSent := frameBytes kind tag (min l.owed 255) payload }

/-- The link after it has gone DOWN, or as a restart begins (R170); that nothing is owed then, that the gateway's declared
items are kept and that an EVENT frame in flight is given up is the model's choice (log entries 25, 26 and 29). -/
def dropped (l : Link) : Link :=
  { l with
    up := false, credits := 0, effectiveMax := 240, places := [], owed := 0
    replies := l.replies.filter Outgoing.isBatchDone, eventInFlight := false }

/-- The batch machine after the link has gone DOWN: an open batch is discarded (R176); its items reading 0 then is the
model's choice (log entry 22). -/
def droppedBatch (b : Batch) : Batch := if b.phase = .opened then .idle else b

/-- The batch machine after a frame has been discarded with the cause CRC: an open batch keeps LINK_CRC where it keeps no
error (R174). -/
def crcKept (b : Batch) : Batch :=
  if b.phase = .opened ∧ b.kept = none then { b with kept := some (.linkCrc, b.received + 1) } else b

/-- The state after a frame has been discarded with the cause CRC; one that used a place owes a credit (R169, R171). -/
def crcDiscarded (s : State) (usedPlace : Bool) : State :=
  { s with
    link := { s.link with
      discardsCrc := s.link.discardsCrc + 1
      owed := if usedPlace then s.link.owed + 1 else s.link.owed }
    batch := crcKept s.batch }

/-- A store command's place in its group is the first, and it is taken now (R172). -/
def StoreCommandTaken (s : State) (tag : Byte) (c : LinkCommand) : Prop := s.offers true tag (some c) = true

/-- A command of the other group waits first in it, and is taken now (R172). -/
def CommandTaken (s : State) (tag : Byte) (c : LinkCommand) : Prop := s.offers false tag (some c) = true

/-- The PERMITS_APPLIED record of a single-record command (R7). -/
def appliedEntry (m : Permit) (d : AppliedDetail) : JournalEntry :=
  { kind := .permitsApplied, cred := some m.defn.cred, permit := some m.defn.number, detail := .applied d }

/-- A store command that changes one permit's state: the table, the write, the flag, the record and the reply; nothing else
but what the engine makes of the store (R7). -/
def PermitChanged (s t : State) (tag : Byte) (m : Permit) (next : PermitState) (d : AppliedDetail) : Prop :=
  t.permits.map shown =
    (s.permits.map fun p => if p.defn.number = m.defn.number then { p with state := next } else p).map shown ∧
  (t.permit? m.defn.number).map (·.storePending) = some true ∧
  writeOf (.permit m.defn next) ∈ t.store.queue ∧
  t.link = answered s true tag .ok [] ∧
  (s.write (appliedEntry m d)).journal <+: t.journal

/-- Only the permit table, the link's reply, the store and the journal may differ. -/
def OnlyPermits (s t : State) : Prop :=
  t = { s with permits := t.permits, link := t.link, store := t.store, snap := t.snap, freeCount := t.freeCount,
               journal := t.journal, gapPending := t.gapPending }

/-- The channel of a room after its settings have changed (R30, R140); a disabled channel keeps the conversion made since it
was last enabled (R147). -/
def channelWith (c : Channel) (before after : RoomSettings) : Channel :=
  if after.inUse && after.isolationRequired then
    if before.inUse && before.isolationRequired then c
    else { held := some .unknown, candidate := none, lastValue := none, fromStart := false }
  else { held := none, candidate := none, lastValue := c.lastValue, fromStart := false }

/-- A room's record after OPEN, CLOSE or CLOSE_CLEAR: both modes in an IN_SERVICE or CLOSED room, the prior mode alone in
an EVACUATING or MUSTER one (R33, R35). -/
def modeTaken (x : Room) (m : Mode) : Room :=
  if x.mode.isOrdinary then { x with mode := m, prior := m } else { x with prior := m }

/-- The ROOM_MODE record of a command (R32). -/
def roomModeEntry (r : RoomId) (v : ModeDetail) (x : Room) (m : Mode) : JournalEntry :=
  { kind := .roomMode, room := some r,
    detail :=
      if x.mode.isOrdinary then .roomMode v x.mode m none else .roomMode v x.mode x.mode (some m) }

/-- Every pending pairing at a door of the room has ended with this reason, and those of other doors stand (R34). -/
def PairingsEnded (s t : State) (r : RoomId) (reason : Reason) : Prop :=
  (∀ d : DoorId, t.pairing d = if (s.door d).any (fun m => m.room == r) then none else s.pairing d) ∧
  (∀ d : DoorId, ∀ m ∈ s.door d, m.room = r → ∀ q ∈ s.pairing d,
    .decision (doorByte d) q.cred (.refuse reason) ∈ (t.port m.port).queue ∧ ∀ e ∈ t.deadlines, e.owner ≠ .pair d)

/-- A record as the start of an evacuation freezes it (R151). -/
def frozen (now : EstateTime) (o : Occupant) : Occupant :=
  { o with
    state := if o.state = .arriving then .inside else o.state
    arrivalOpen := o.arrivalOpen || decide (o.state = .arriving)
    evacTime := some (o.evacTime.getD now) }

/-- A door's slot has been emptied and its PAIR entry removed (R81). -/
def slotEmptied (s : State) (d : DoorId) : State :=
  { s with pairings := (s.setPairing d none).pairings, deadlines := s.deadlines.filter fun e => e.owner != .pair d }

/-- The REFUSE record of a first presenter, with its stored need (R81). -/
def pairRefusal (s : State) (d : DoorId) (q : Pairing) (reason : Reason) (n : Option PermitNo) : JournalEntry :=
  { kind := .refuse, room := (s.door d).map fun m => m.room, door := some (doorByte d), cred := some q.cred, permit := n,
    detail := .refusal reason (some q.need) }

/-- A pending pairing has ended with its first presenter's refusal in its own door's port and in the journal, with the stored
need; the slot is empty and its PAIR entry gone (R81, R84, R88). -/
def slotRefused (s : State) (d : DoorId) (q : Pairing) (reason : Reason) (n : Option PermitNo) : State :=
  let t := slotEmptied s d
  (match s.door d with
    | none => t
    | some m => t.place m.port (.decision (doorByte d) q.cred (.refuse reason))).write (pairRefusal s d q reason n)

/-- A room in use has been taken into an evacuation (R150, steps 1 to 4): its mode is EVACUATING, the pairings at its doors
have ended with REFUSE EVAC in door order, its records are frozen and their entries gone (R151), and EVAC_RELEASE has gone to
every door of it. -/
def roomTaken (s : State) (r : RoomId) : State :=
  let t := (s.doorsOfRoom r).foldl (fun u d => (s.pairing d).elim u fun q => slotRefused u d q .evac none)
    ({ s with rooms := (s.setRoom r { s.room r with mode := .evacuating }).rooms } : State)
  ({ t with
    roster := t.roster.map fun o => if o.room = r then frozen s.now o else o
    deadlines := t.deadlines.filter fun e => !(s.roster.any fun o => o.room == r && e.owner.ofRecord o.cred) } :
      State).notify r { kind := .evacRelease }

/-- The rooms in use in ascending order (R150). -/
def usedRooms (s : State) : List RoomId := allRooms.filter fun r => (s.room r).settings.inUse

/-- What the start of an evacuation makes of the rooms in use, their pairings and their records, with EVAC_START first in
the journal and EVAC_RELEASE at their doors (R150, R151). -/
def EvacuationBegun (s t : State) (src : Source) : Prop :=
  t.evac.active = true ∧
  t = (usedRooms s).foldl roomTaken
    (({ s with evac := t.evac, link := t.link } : State).write
      { kind := .evacStart, detail := .evacStart src s.roster.length }) ∧
  t.rooms = s.rooms.map (fun x => if x.settings.inUse then { x with mode := .evacuating } else x) ∧
  t.roster = s.roster.map (fun o => if (s.room o.room).settings.inUse then frozen s.now o else o) ∧
  (∀ o ∈ s.roster, (s.room o.room).settings.inUse = true → ∀ e ∈ t.deadlines, e.owner.ofRecord o.cred = false) ∧
  (∀ d : DoorId, t.pairing d =
    if (s.door d).any (fun m => (s.room m.room).settings.inUse) then none else s.pairing d) ∧
  (∀ d : DoorId, ∀ m ∈ s.door d, (s.room m.room).settings.inUse = true → ∀ q ∈ s.pairing d,
    .decision (doorByte d) q.cred (.refuse .evac) ∈ (t.port m.port).queue ∧ ∀ e ∈ t.deadlines, e.owner ≠ .pair d) ∧
  QueuesGrew s t ∧
  (s.write { kind := .evacStart, detail := .evacStart src s.roster.length }).journal <+: t.journal

/-- A record of a room that enters MUSTER (R156). -/
def unaccounted (o : Occupant) : Occupant :=
  { o with
    state := if o.state = .inside then .unaccounted else o.state
    coveredBy := none, covers := [], uncovered := false }

/-- A room at the end of an evacuation: one that is EVACUATING enters MUSTER with records, else its prior mode (R156). -/
def roomAfterEvacuation (s : State) (r : RoomId) : Room :=
  if (s.room r).mode = .evacuating then
    if s.presentCount r = 0 then { s.room r with mode := (s.room r).prior } else { s.room r with mode := .muster }
  else s.room r

/-- An EVACUATING room has left the evacuation (R156, steps 1 to 3): its mode, its records, and EVAC_END with its new mode at
every door of it. -/
def roomLeft (s : State) (r : RoomId) : State :=
  ({ s with
    rooms := (s.setRoom r (roomAfterEvacuation s r)).rooms
    roster := s.roster.map fun o => if o.room = r then unaccounted o else o } : State).notify r
      { kind := .evacEnd, detail := .mode (roomAfterEvacuation s r).mode }

/-- What the end of an evacuation makes of the EVACUATING rooms and their records, with EVAC_END in the journal and at their
doors (R156). -/
def EvacuationEnded (s t : State) (src : Source) : Prop :=
  t.evac.active = false ∧
  (∃ rooms records : Nat,
    rooms = (allRooms.filter fun r => (s.room r).mode == .evacuating && decide (0 < s.presentCount r)).length ∧
    records = (s.roster.filter fun o => (s.room o.room).mode == .evacuating).length ∧
    t = (allRooms.filter fun r => (s.room r).mode == .evacuating).foldl roomLeft
      (({ s with evac := t.evac, link := t.link } : State).write
        { kind := .evacEnd, detail := .evacEnd src rooms records })) ∧
  (∀ r : RoomId, t.room r = roomAfterEvacuation s r) ∧
  t.roster = s.roster.map (fun o => if (s.room o.room).mode = .evacuating then unaccounted o else o) ∧
  QueuesGrew s t ∧
  ∃ rooms records : Nat,
    rooms = (allRooms.filter fun r => (s.room r).mode == .evacuating && decide (0 < s.presentCount r)).length ∧
    records = (s.roster.filter fun o => (s.room o.room).mode == .evacuating).length ∧
    Journaled s t { kind := .evacEnd, detail := .evacEnd src rooms records }

/-- The ACCOUNTED record of a record that is accounted (R157). -/
def accountedEntry (o : Occupant) (d : LeaveDetail) (src : Option Source) : JournalEntry :=
  { kind := .accounted, room := some o.room, cred := some o.cred, permit := some o.permit,
    detail := .account d src ((o.evacTime.getD 0 - o.chargeStart + 59) / 60) }

/-- The room table after a record of a room has been removed: a MUSTER room left empty takes its prior mode (R156). -/
def roomsAfterLast (s : State) (r : RoomId) (last : Bool) : Vector Room 16 :=
  if (s.room r).mode = .muster ∧ last = true then (s.setRoom r { s.room r with mode := (s.room r).prior }).rooms
  else s.rooms

/-- A record has been removed: it, its entries and its place on a covered list are gone (R100). -/
def without (s : State) (o : Occupant) : State :=
  { s with
    roster := (s.roster.filter fun x => x.cred != o.cred).map fun x =>
      { x with covers := x.covers.filter (· != o.cred) }
    deadlines := s.deadlines.filter fun e => !e.owner.ofRecord o.cred }

/-- A room in MUSTER with no record left returns to its prior mode, with its record and notices (R156). -/
def musterEmptied (s : State) (r : RoomId) : State :=
  if (s.room r).mode = .muster ∧ (∀ o ∈ s.roster, o.room ≠ r) then
    (({ s with rooms := (s.setRoom r { s.room r with mode := (s.room r).prior }).rooms } : State).write
      { kind := .roomMode, room := some r, detail := .musterCleared .muster (s.room r).prior }).notify r
        { kind := .musterCleared }
  else s

/-- A record has been accounted with the detail ROOM_CLEAR and a source: removed, charged to its evacuation time, journaled
(R157). -/
def accountedIn (src : Source) (s : State) (o : Occupant) : State :=
  ({ without s o with permits := chargedTo s o.permit ((o.evacTime.getD 0 - o.chargeStart + 59) / 60) } : State).write
    (accountedEntry o .roomClear (some src))

/-- Every record of a room has been accounted in roster order: charged to its evacuation time, and gone (R157); the room
then returns to its prior mode with MUSTER_CLEARED in the journal and at every door of it (R156). -/
def RoomAccounted (s t : State) (r : RoomId) (src : Source) : Prop :=
  t = musterEmptied ((s.inRoom r).foldl (accountedIn src) { s with link := t.link, muster := t.muster }) r ∧
  t.roster.map person = (s.roster.filter fun o => o.room != r).map person ∧
  t.permits = (s.inRoom r).foldl (fun l o => l.map fun p =>
    if p.defn.number = o.permit then
      { p with used := min (budgetCap p.defn) (p.used + (o.evacTime.getD 0 - o.chargeStart + 59) / 60) }
    else p) s.permits ∧
  t.rooms = (s.setRoom r { s.room r with mode := (s.room r).prior }).rooms ∧
  (s.journal.length + s.presentCount r + 1 ≤ 256 →
    (t.journal.drop s.journal.length).map (·.entry) =
      (s.inRoom r).map (fun o => accountedEntry o .roomClear (some src)) ++
        [{ kind := .roomMode, room := some r, detail := .musterCleared .muster (s.room r).prior }]) ∧
  QueuesGrew s t

/-- The head of the deadline queue, due and this owner's, while RUNNING (R115), with no change to LOST still owed by the
present second (R45). -/
def HeadDue (s : State) (o : Owner) (due : EstateTime) (rest : List Deadline) : Prop :=
  s.part = .running ∧ (s.clock.status ≠ .set ∨ s.clock.elapsed < 3686400) ∧
    s.deadlines = { due := due, owner := o } :: rest ∧ due ≤ s.now

/-- The later of two stages (R106). -/
def laterStage (a b : Stage) : Stage := if a.rank < b.rank then b else a

/-- The queue after a record's STAY slot has been set to the next boundary of a stage (R105). -/
def staySet (rest : List Deadline) (c : Credential) (st : Stage) (ae grace : Nat) : List Deadline :=
  match stayDueAt st ae grace with
  | some due => insertDeadline { due := due, owner := .stay c } (rest.filter fun e => !e.owner.sameSlot (.stay c))
  | none => rest.filter fun e => e.owner != .stay c

/-- The record a stage reached writes: none for DUE (R106). -/
def stageEntry (o : Occupant) (st : Stage) : Option JournalEntry :=
  let entry (k : JournalKind) : JournalEntry :=
    { kind := k, room := some o.room, cred := some o.cred, permit := some o.permit, detail := .instant o.allowanceEnd }
  match st with
  | .within => none
  | .due => none
  | .overstay => some (entry .stayOver)
  | .alarm => some (entry .stayAlarm)

/-- The notice of a stage reached (R106). -/
def stageNotice : Stage → Option NoticeKind
  | .within => none
  | .due => some .stayDue
  | .overstay => some .stayOver
  | .alarm => some .stayAlarm

/-- A stage reached is told: its notice at every door of the record's room, then its record (R106). -/
def stageTold (s : State) (o : Occupant) (st : Stage) : State :=
  let t := (stageNotice st).elim s fun k => s.notify o.room { kind := k, cred := some o.cred, time := o.allowanceEnd }
  (stageEntry o st).elim t t.write

/-- A record has been curtailed with a reason and a grace (R108, R109): one that is UNACCOUNTED, or whose room is EVACUATING
or MUSTER, is as it was. Else its allowance end is the earlier of the two and its stage and its STAY entry are those of that
end at now (R107), but a record held OVER or ALARM keeps all three (R105, R108; log entry 59); CURTAILED goes to every door
of the room and to the journal, and the outputs of a later stage follow. That a record held WITHIN or DUE whose allowance
end has come takes OVER or ALARM is the model's choice (log entry 60). -/
def curtailedAs (reason : CurtailReason) (grace : Nat) (s : State) (c : Credential) : State :=
  match s.record? c with
  | none => s
  | some o =>
    if o.state = .unaccounted ∨ (s.room o.room).mode.isOrdinary = false then s
    else
      let held : Bool := o.stage == .overstay || o.stage == .alarm
      let g := (s.room o.room).settings.grace
      let ae := if held then o.allowanceEnd else min o.allowanceEnd (min (s.now + grace) 4294967295)
      let st := if held then o.stage else stageAt s.now ae g
      let t :=
        (({ s with
            roster := s.roster.map fun x =>
              if x.cred = c then { x with allowanceEnd := ae, stage := if held then x.stage else st } else x
            deadlines := if held then s.deadlines else staySet s.deadlines c st ae g } : State).notify o.room
          { kind := .curtailed, cred := some c, time := ae, detail := .reason reason }).write
            { kind := .curtailed, room := some o.room, cred := some c, permit := some o.permit,
              detail := .curtail reason o.allowanceEnd ae }
      if o.stage.rank < st.rank then stageTold t { o with allowanceEnd := ae } st else t

/-- The purge takes a permit whose window ended seven days ago or more and that is not in use (R23). -/
def purgeable (s : State) (p : Permit) : Bool :=
  decide (p.defn.windowEnd + 604800 ≤ s.now) && s.roster.all fun o => o.permit != p.defn.number

/-- One conversion of a channel (R138, R139). -/
def converted (k : Channel) (v : BitVec 10) : Channel :=
  let x : HeldClass :=
    if v.toNat ≤ 99 then .short else if v.toNat ≤ 399 then .active else if v.toNat ≤ 799 then .inactive else .openLoop
  match k.held with
  | none => k
  | some held =>
    if x = held then { k with candidate := none, lastValue := some v }
    else if k.candidate = some (x, 1) then { k with candidate := some (x, 2), lastValue := some v }
    else if k.candidate.any (fun y => y.1 == x) then
      { held := some x, candidate := none, lastValue := some v, fromStart := false }
    else { k with candidate := some (x, 1), lastValue := some v }

/-- The bytes of a read of the muster port: the answer, then 0, as many as are clocked (R160). -/
def musterBytes (answer : List Byte) (count : Nat) : List Byte :=
  (answer ++ List.replicate (count - 8) 0).take count

/-- The answer of ROOM_SUMMARY for a room in use (R161). -/
def summaryBytes (s : State) (r : RoomId) : List Byte :=
  [0, BitVec.ofNat 8 (s.room r).mode.code, BitVec.ofNat 8 (min (s.presentCount r) 255),
    BitVec.ofNat 8 (min (s.unaccountedIn r).length 255), BitVec.ofNat 8 (s.isolation r).code, 0, 0, 0]

/-- The answer of an entry kind: the record at the selector's ordinal of a list, END beyond it (R161). -/
def entryBytes (s : State) (l : List Occupant) (fields : Occupant → List Byte) : List Byte :=
  match l[s.muster.ordinal.toNat]? with
  | none => [1, 0, 0, 0, 0, 0, 0, 0]
  | some o => 0 :: be 5 o.cred.toNat ++ fields o

/-- The eight bytes of a read of the muster port (R160, R161, R162): STARTING or LOW_POWER, then BAD_SELECTOR, then RANGE, then
what the kind gives: UNUSED or the summary, the UNACCOUNTED record, the kept answer, the present record. -/
def musterReply (s : State) : List Byte :=
  let status (n : Byte) : List Byte := [n, 0, 0, 0, 0, 0, 0, 0]
  let ofRoom (answer : RoomId → List Byte) : List Byte :=
    if h : s.muster.room.toNat < 16 then answer ⟨s.muster.room.toNat, h⟩ else status 3
  match s.part with
  | .starting => status 6
  | .lowPower => status 7
  | .running =>
    if s.muster.kind = 1 then ofRoom fun r => if (s.room r).settings.inUse then summaryBytes s r else status 4
    else if s.muster.kind = 2 then
      ofRoom fun r => entryBytes s (s.unaccountedIn r) fun o =>
        be 2 (min ((s.now - o.evacTime.getD s.now) / 60) 32767 + if s.kindOf o = .escort then 32768 else 0)
    else if s.muster.kind = 3 then s.muster.kept.getD (status 2)
    else if s.muster.kind = 4 then
      ofRoom fun r => entryBytes s (s.inRoom r) fun o =>
        [BitVec.ofNat 8 (o.state.code + if s.kindOf o = .escort then 128 else 0),
         BitVec.ofNat 8 (o.stage.code + (if o.uncovered then 16 else 0) + if o.loneAlarm then 32 else 0)]
    else status 5

/-! ### Reply fields -/

/-- A number in so many bytes, the most significant first, held at the most they carry; that it is held is the model's choice
(log entry 25). -/
def capped (bytes n : Nat) : List Byte := be bytes (min n (256 ^ bytes - 1))

/-- A mark of one byte: 1 for yes, set or present (R187). -/
def yesNo (b : Bool) : List Byte := if b then [1] else [0]

/-- A code of one byte, or 0 where there is nothing to name (R188). -/
def codeOr0 {α : Type} (code : α → Nat) (x : Option α) : List Byte := [BitVec.ofNat 8 (x.elim 0 code)]

/-- The reply fields of QUERY STATUS, the query's own receive place being free (R57, R173, R188). -/
def statusReply (s : State) : List Byte :=
  let u := min (s.clock.elapsed / 1024) 3600
  be 4 s.clock.value ++ codeOr0 ClockStatus.code (some s.clock.status) ++ be 4 s.clock.elapsed ++
  be 2 u ++ be 2 ((u + 59) / 60 * 60) ++ yesNo s.clock.budgetDay.isSome ++ be 4 (s.clock.budgetDay.getD 0) ++
  (allRooms.flatMap fun r =>
    codeOr0 HeldClass.code (s.channel r).held ++ be 2 ((s.channel r).lastValue.elim 65535 fun v => v.toNat)) ++
  codeOr0 EvacLevel.code (some s.evac.held) ++ yesNo s.evac.hold ++ yesNo s.evac.carryOver ++ yesNo s.evac.active ++
  [if s.link.up then 2 else 1] ++ capped 1 s.link.credits ++ capped 1 (s.link.places.length - 1) ++
  capped 2 s.link.discardsCrc ++ capped 2 s.link.discardsLength ++ capped 2 s.link.discardsOverrun ++
  codeOr0 BatchPhase.code (some s.batch.phase) ++ be 2 s.batch.id.toNat ++ capped 2 s.batch.declared ++
  capped 2 s.batch.received ++ codeOr0 (fun x : BatchError × Nat => x.1.code) s.batch.kept ++
  capped 2 (s.batch.kept.elim 0 fun x => x.2) ++ capped 2 s.journal.length

/-- A permit definition as the PERMIT payload lays it out (13.3). -/
def permitPayload (d : PermitDef) : List Byte :=
  let bit (n : Nat) (b : Bool) : Nat := if b then n else 0
  be 4 d.number.toNat ++ be 5 d.cred.toNat ++ [if d.kind = .contractor then 1 else 2] ++
  [if d.requirement = .noEscort then 1 else 2] ++ be 2 d.rooms.toNat ++ be 4 d.windowStart ++ be 4 d.windowEnd ++
  [BitVec.ofNat 8 (bit 1 d.weekdays.isSome + bit 2 d.hours.isSome + bit 4 d.budget.isSome + bit 8 d.coverLimit.isSome)] ++
  be 1 (d.weekdays.elim 0 fun w => w.toNat) ++
  (match d.hours with
   | some (f, t) => be 3 f ++ be 3 t
   | none => be 3 0 ++ be 3 0) ++
  be 2 (d.budget.getD 0) ++ be 1 (d.coverLimit.getD 0)

/-- The reply fields of QUERY PERMIT (R24, R188). -/
def permitReply (s : State) (m : Permit) : List Byte :=
  permitPayload m.defn ++ codeOr0 PermitState.code (some m.state) ++ capped 2 m.used ++ yesNo m.storePending ++
  (match s.occupantOf? m.defn.number with
   | some o => [BitVec.ofNat 8 o.state.code, BitVec.ofNat 8 o.room.val]
   | none => [0, 0])

/-- A slot's kind and due time, or 0 where it is empty: the first of these owners that has an entry (R188). -/
def slotReply (s : State) (owners : List (Byte × Owner)) : List Byte :=
  match owners.filterMap fun x => (s.deadlines.find? fun e => e.owner == x.2).map fun e => (x.1, e.due) with
  | (kind, due) :: _ => kind :: capped 4 due
  | [] => [0, 0, 0, 0, 0]

/-- The record block of a ROSTER_ROOM reply (R188). -/
def recordReply (s : State) (o : Occupant) : List Byte :=
  let bit (n : Nat) (b : Bool) : Nat := if b then n else 0
  be 5 o.cred.toNat ++ be 4 o.permit.toNat ++ [BitVec.ofNat 8 o.entryDoor.val] ++
  codeOr0 OccState.code (some o.state) ++ capped 4 o.entryTime ++ capped 4 o.chargeStart ++ capped 4 o.allowanceEnd ++
  codeOr0 Stage.code (some o.stage) ++
  [BitVec.ofNat 8 (bit 1 o.loneAlarm + bit 2 o.uncovered +
    bit 4 (o.arrivalOpen && decide (s.now < min (o.entryTime + 30) 4294967295)) + bit 8 o.evacTime.isSome)] ++
  capped 4 (o.evacTime.getD 0) ++ be 5 (o.coveredBy.elim 0 fun c => c.toNat) ++ [BitVec.ofNat 8 o.covers.length] ++
  (((List.range 4).map fun i => o.covers[i]?).flatMap fun c => be 5 (c.elim 0 fun c => c.toNat)) ++
  slotReply s [(1, .stay o.cred)] ++ slotReply s [(1, .arrive o.cred), (2, .check o.cred)]

/-- The reply fields of QUERY ROSTER_ROOM (R117, R188); that an ended list is followed by a record block of 0 is log entry
51's reading. -/
def rosterReply (s : State) (r : RoomId) (ordinal : Nat) : List Byte :=
  let waiting := (s.doorsOfRoom r).filterMap fun d => (s.pairing d).map fun q => (d, q)
  codeOr0 Mode.code (some (s.room r).mode) ++ capped 1 (s.presentCount r) ++
  (match (s.inRoom r)[ordinal]? with
   | some o => 1 :: recordReply s o
   | none => 0 :: List.replicate 65 0) ++
  [BitVec.ofNat 8 waiting.length] ++
  waiting.flatMap fun x =>
    [BitVec.ofNat 8 x.1.val] ++ be 5 x.2.cred.toNat ++
      [BitVec.ofNat 8 ((if x.2.need.escort then 1 else 0) + if x.2.need.partner then 2 else 0)] ++ capped 4 x.2.time

/-- The reply fields of QUERY DESCRIBE for a room (R42, R188). -/
def roomReply (s : State) (r : RoomId) : List Byte :=
  let x := s.room r
  let bit (n : Nat) (b : Bool) : Nat := if b then n else 0
  [BitVec.ofNat 8 r.val] ++
  [BitVec.ofNat 8 (bit 1 x.settings.inUse + bit 2 x.settings.isolationRequired +
    bit 4 (decide (x.settings.presence = .paired)) + bit 8 (decide (x.settings.events = .faults)))] ++
  capped 1 x.settings.maxOccupancy ++ capped 2 x.settings.maxStay ++ capped 1 x.settings.checkInterval ++
  capped 1 x.settings.grace ++ codeOr0 Mode.code (some x.mode) ++ codeOr0 Mode.code (some x.prior) ++ yesNo x.doorAlarm ++
  codeOr0 IsolationState.code (some (s.isolation r)) ++ capped 1 (s.presentCount r) ++
  [BitVec.ofNat 8 (s.doorsOfRoom r).length]

/-- The reply fields of QUERY DESCRIBE for a door (R42, R188). -/
def doorReply (s : State) (d : DoorId) : List Byte :=
  match s.door d with
  | some m => [BitVec.ofNat 8 d.val, BitVec.ofNat 8 m.room.val, BitVec.ofNat 8 m.port.val]
  | none => [BitVec.ofNat 8 d.val, 0xFF, 0xFF]

/-- The codes of the names that replies carry are those of R187, and the errors are numbered as in a BATCH_DONE (13.3). -/
def ReplyCodes : Prop :=
  [Mode.inService, .closed, .evacuating, .muster].map Mode.code = [1, 2, 3, 4] ∧
  [OccState.arriving, .inside, .unaccounted].map OccState.code = [1, 2, 3] ∧
  [Stage.within, .due, .overstay, .alarm].map Stage.code = [1, 2, 3, 4] ∧
  [IsolationState.notRequired, .unknown, .confirmed, .notConfirmed, .fault].map IsolationState.code = [1, 2, 3, 4, 5] ∧
  [HeldClass.unknown, .short, .active, .inactive, .openLoop].map HeldClass.code = [1, 2, 3, 4, 5] ∧
  [PermitState.active, .suspended, .revoked].map PermitState.code = [1, 2, 3] ∧
  [ClockStatus.unset, .set, .lost].map ClockStatus.code = [1, 2, 3] ∧
  [EvacLevel.active, .inactive].map EvacLevel.code = [1, 2] ∧
  [BatchPhase.idle, .opened, .applying].map BatchPhase.code = [1, 2, 3] ∧
  [BatchError.range, .linkCrc, .short, .overrun, .sum, .full, .credentialLimit, .revokedNumber, .credentialInUse,
    .kindInUse].map BatchError.code = [1, 2, 3, 4, 5, 6, 7, 8, 9, 10]

/-! ### The store's engine -/

/-- What the engine may take next leaves everything but the store, the snapshot area, store-pending flags, the batch
machine's own counts and its BATCH_DONE (R175, R182, R183). -/
def EngineOnly (s t : State) : Prop :=
  t.permits.map shown = s.permits.map shown ∧ s.link.replies <+: t.link.replies ∧
  t = { s with permits := t.permits, link := { s.link with replies := t.link.replies }, batch := t.batch,
               store := t.store, snap := t.snap, freeCount := t.freeCount }

/-- The head entry of the write queue has completed (R182): it has left the queue, its permit's store-pending flag is
cleared where no other write of that permit is queued or waits to be (R7), an applied batch has counted its write, and with
its last one BATCH_DONE APPLIED is made and the machine is IDLE (R175); the free places take the batch's waiting writes
(R172, R175). The batch's items at 0 while IDLE are the model's choice (log entry 22). When the flag is cleared is log entry
37's reading. -/
def headDone (s : State) : State :=
  match s.store.queue with
  | [] => s
  | e :: rest =>
    let last : Bool := e.fromBatch && decide (s.batch.remaining ≤ 1)
    let waiting := if last then [] else s.batch.unqueued
    { s with
      permits := s.permits.map fun p =>
        if e.key = .permit p.defn.number ∧ ∀ x ∈ rest ++ s.batch.unqueued, x.key ≠ e.key then shown p else p
      link :=
        if last then
          { s.link with replies := s.link.replies ++ [.batchDone s.batch.closeTag s.batch.id none s.batch.applied] }
        else s.link
      batch :=
        if last then State.reset.batch
        else
          { s.batch with
            remaining := if e.fromBatch then s.batch.remaining - 1 else s.batch.remaining
            unqueued := waiting.drop (32 - rest.length) }
      store := { s.store with queue := rest ++ waiting.take (32 - rest.length), headPrevious := none } }

/-- A slot has been programmed with a definition and a sequence number, and the counter is one above it (R182). -/
def slotProgrammed (s : State) (a : Nat) (d : Defn) (seq : Nat) : State :=
  { s with store := { s.store with slots := putSlot a (.written d seq true) s.store.slots, seq := seq + 1 } }

/-- A slot's live mark has been cleared (R182). -/
def slotRetired (s : State) (a : Nat) : State :=
  { s with store := { s.store with slots := putSlot a .retired s.store.slots } }

/-- The operation in flight has completed, and the engine is free (R182, R183, R184). The head entry completes with its
retirement, or with its program where its key had no slot before; else that slot is still to be retired. A copy of that very
slot moves it. A mark makes its page DIRTY, an erase leaves it ERASED and not DIRTY; the snapshot area holds what was
programmed, and is erased with the last of its four pages. That the snapshot's contents and marks are separate operations,
and stay until the fourth page is erased, is the model's choice (log entries 11 and 12); the copied previous version is log
entry 36's reading. -/
def operationDone (t : State) (op : FlashOp) : State :=
  let s : State := { t with store := { t.store with engine := none } }
  match op with
  | .program a d seq =>
    match s.store.liveSlot d.key with
    | none => headDone (slotProgrammed s a d seq)
    | some b =>
      { slotProgrammed s a d seq with store := { (slotProgrammed s a d seq).store with headPrevious := some b } }
  | .retire a => headDone (slotRetired s a)
  | .retireStale a => slotRetired s a
  | .copy src dst d seq =>
    { slotProgrammed s dst d seq with
      store := { (slotProgrammed s dst d seq).store with
        headPrevious := if s.store.headPrevious = some src then some dst else s.store.headPrevious } }
  | .mark page =>
    { s with store := { s.store with
        dirty := page :: s.store.dirty.filter (· != page)
        compaction := s.store.compaction.map fun j => { j with marked := true } } }
  | .erase page =>
    { s with store := { s.store with
        slots := s.store.slots.filter fun x => x.1 / 32 != page
        dirty := s.store.dirty.filter (· != page)
        compaction := none } }
  | .snapProgram sn => { s with snap := { s.snap with content := some sn } }
  | .snapValid => { s with snap := { s.snap with valid := true } }
  | .snapConsumed => { s with snap := { s.snap with consumed := true } }
  | .snapErase k =>
    let pages := s.snap.erased.set k.val true k.isLt
    if ∀ j : Fin 4, pages.get j = true then
      { s with snap := { s.snap with
          erased := pages, content := none, valid := false, consumed := false, eraseRequested := false } }
    else { s with snap := { s.snap with erased := pages } }

/-- The free engine has gone on from `u` to `t` (R183): it has taken up an operation and made nothing of it, so that slots,
counter, DIRTY pages and snapshot are as they were. Unless the head entry is a retirement of a key with no slot, which has
nothing to make, so are the queue, the batch, the flags and the replies; then entries leave the queue, in order. -/
def EngineWentOn (u t : State) : Prop :=
  EngineOnly u t ∧ t.store.slots = u.store.slots ∧ t.store.seq = u.store.seq ∧ t.store.dirty = u.store.dirty ∧
  t.snap.content = u.snap.content ∧ t.snap.valid = u.snap.valid ∧ t.snap.consumed = u.snap.consumed ∧
  ((∀ e ∈ u.store.queue.head?, ∀ k, e.job = .retire k → u.store.liveSlot k ≠ none) →
    t.permits = u.permits ∧ t.link = u.link ∧ t.batch = u.batch ∧ t.store.queue = u.store.queue ∧
      t.store.headPrevious = u.store.headPrevious) ∧
  (u.queueLaw → (t.store.queue ++ t.batch.unqueued) <:+ (u.store.queue ++ u.batch.unqueued))

/-- Compaction is wanted: a page is DIRTY, or fewer than 64 slots of the main area are ERASED (R182). -/
def compactionDue (u : State) : Prop := u.store.dirty ≠ [] ∨ 1536 < u.store.slots.length + 64

/-- How many slots of a page are RETIRED. -/
def retiredIn (u : State) (page : Nat) : Nat :=
  (u.store.slots.filter fun x => x.1 / 32 == page && x.2 == .retired).length

/-- The page compaction takes (R182): a DIRTY page before any other, whose contents are ignored (R185) and whose mark is
programmed; else the page with the most RETIRED slots, the lowest number among equals, each of its WRITTEN slots to be
copied. -/
def PageTaken (u : State) (job : Compaction) : Prop :=
  (u.store.dirty ≠ [] → job.page ∈ u.store.dirty ∧ job.todo = [] ∧ job.marked = true) ∧
  (u.store.dirty = [] →
    job.page < 48 ∧ job.marked = false ∧
    (∀ q < 48, retiredIn u q ≤ retiredIn u job.page ∧ (q < job.page → retiredIn u q < retiredIn u job.page)) ∧
    ∀ a, a ∈ job.todo ↔ a / 32 = job.page ∧ ∃ d q, (a, Slot.written d q true) ∈ u.store.slots)

/-- Compaction's next operation (R182): while slots are to be copied, the copy of one of them, its contents as they are,
into an ERASED slot of another page with the counter's value as its sequence number; then the page's mark, then its erase.
Which slot is copied and where to are free values (log entry 9). -/
def CompactionTook (u t : State) (job : Compaction) : Prop :=
  (job.todo = [] →
    t.store.engine = some (if job.marked then .erase job.page else .mark job.page) ∧ t.store.compaction = some job) ∧
  (job.todo ≠ [] → (∀ a ∈ job.todo, ∃ d q ok, slotAt u.store.slots a = some (.written d q ok)) →
    (∃ b < 1536, b / 32 ≠ job.page ∧ b / 32 ∉ u.store.dirty ∧ slotAt u.store.slots b = none) →
    ∃ src ∈ job.todo, ∃ dst < 1536, ∃ d q ok,
      slotAt u.store.slots src = some (.written d q ok) ∧
      dst / 32 ≠ job.page ∧ dst / 32 ∉ u.store.dirty ∧ slotAt u.store.slots dst = none ∧
      t.store.engine = some (.copy src dst d u.store.seq) ∧
      t.store.compaction = some { job with todo := job.todo.filter (· != src) })

/-- The head entry of the write queue is a retirement of a key with no slot, which has no operation to make. -/
def HeadSlotless (u : State) : Prop :=
  ∃ e ∈ u.store.queue.head?, ∃ k, e.job = .retire k ∧ u.store.liveSlot k = none

/-- The write queue's next operation (R182, R183): of the head entry, its program into the lowest ERASED slot, its
retirement of the previous version, or its retirement of its key's slot; with no entry, the erase of the snapshot area's
lowest page not erased, where it is requested (log entry 12), else none. -/
def QueueTook (u t : State) : Prop :=
  (∀ e ∈ u.store.queue.head?,
    (∀ d, e.job = .version d →
      (∀ a, u.store.headPrevious = some a → t.store.engine = some (.retire a)) ∧
      (∀ a, u.store.headPrevious = none → u.store.lowestErased = some a →
        t.store.engine = some (.program a d u.store.seq))) ∧
    ∀ k a, e.job = .retire k → u.store.liveSlot k = some a → t.store.engine = some (.retire a)) ∧
  (u.store.queue = [] →
    (∀ k : Fin 4, u.snap.eraseRequested = true → u.snap.erased.get k = false →
      (∀ j < k, u.snap.erased.get j = true) → t.store.engine = some (.snapErase k)) ∧
    (u.snap.eraseRequested = false ∨ (∀ k : Fin 4, u.snap.erased.get k = true) → t.store.engine = none))

/-- Which operation the free engine takes up (R183): the snapshot writer's before any other, in LOW_POWER no other; then
compaction's, of the page it has in hand or, where compaction is wanted, of the page it takes; then the write queue's, the
entries at its head that have nothing to make having completed; then the snapshot area's erase. While STARTING it makes
start-up's retirements, then the consumed mark, and nothing else (log entry 8). -/
def EngineTook (u t : State) : Prop :=
  (u.part ≠ .starting → ∀ op rest, u.snap.writer = op :: rest → t.store.engine = some op ∧ t.snap.writer = rest) ∧
  (u.part = .lowPower → u.snap.writer = [] → t.store.engine = none) ∧
  (u.part = .running → u.snap.writer = [] →
    (∀ job, u.store.compaction = some job → CompactionTook u t job) ∧
    (u.store.compaction = none → compactionDue u → ∃ job, PageTaken u job ∧ CompactionTook u t job) ∧
    (u.store.compaction = none → ¬ compactionDue u → ∀ n : Nat,
      (∀ i < n, HeadSlotless (Nat.iterate headDone i u)) → ¬ HeadSlotless (Nat.iterate headDone n u) →
      QueueTook (Nat.iterate headDone n u) t)) ∧
  (u.part = .starting →
    (∀ a rest, u.store.toRetire = a :: rest → t.store.engine = some (.retireStale a) ∧ t.store.toRetire = rest) ∧
    (u.store.toRetire = [] →
      t.store.engine = (if u.snap.toConsume then some .snapConsumed else none) ∧ t.snap.toConsume = false))

/-- The snapshot of a state (R184). -/
def snapshotOf (s : State) : Snapshot :=
  { clock := s.now
    records := s.roster.map fun o => (o, s.kindOf o)
    rooms := s.rooms.map fun x => (x.mode, x.prior, x.doorAlarm)
    hold := s.evac.hold
    used := (s.permits.filter fun p => p.used != 0).map fun p => (p.defn.number, p.used) }

/-- The snapshot area right after a recovery (R184): a snapshot whose program has begun is to be discarded, its consumed mark
programmed and the area's erase requested; one whose program has not begun is dropped (log entry 11). -/
def snapRecovered (a : SnapArea) : SnapArea :=
  if a.begun then
    if a.writer.any fun op => op.snapshot?.isSome then { a with writer := [], begun := false }
    else { a with writer := [.snapConsumed], begun := false, eraseRequested := true }
  else a

/-- What a warning leaves in flight (R184): a page erase is abandoned, and every other operation goes on. -/
def heldAtWarning (s : State) : Option FlashOp :=
  match s.store.engine with
  | some (.erase _) => none
  | some (.snapErase _) => none
  | other => other

/-- What the snapshot writer has to make at a warning (R184): the snapshot and its valid mark where the area is erased, else
what it still had to make. -/
def writerAtWarning (s : State) : List FlashOp :=
  if ∀ k : Fin 4, s.snap.erased.get k = true then [.snapProgram (snapshotOf s), .snapValid] else s.snap.writer

/-- The store right after a warning (R184): the write queue, the slots, the DIRTY pages and the counter as they were; what is
in flight goes on, and a free engine takes up the snapshot writer's first operation. -/
def storeWarned (s : State) : Store :=
  { s.store with
    engine := (heldAtWarning s).orElse fun _ => (writerAtWarning s).head?
    compaction :=
      match s.store.engine with
      | some (.erase _) => none
      | _ => s.store.compaction }

/-- What is added to the outbound queues is notices: no decision and no result (R165). -/
def OnlyNotices (s t : State) : Prop :=
  ∀ p : PortId, ∃ more, (t.port p).queue = (s.port p).queue ++ more ∧ ∀ i ∈ more, ∃ d r n, i = .notice d r n

/-- No EXIT_RESULT is among the items added to the outbound queues. -/
def NoExitAnswer (s t : State) : Prop :=
  ∀ p : PortId, ∃ more, (t.port p).queue = (s.port p).queue ++ more ∧ ∀ d c r k, Item.exitResult d c r k ∉ more

/-! ### Cover, removal and its effects -/

/-- A roster after a cover link has been made: the contractor names the escort and stands last on its list (R119). -/
def linked (l : List Occupant) (contractor escort : Credential) : List Occupant :=
  l.map fun o =>
    { o with
      coveredBy := if o.cred = contractor then some escort else o.coveredBy
      covers := if o.cred = escort then o.covers ++ [contractor] else o.covers }

/-- A roster after an escort has adopted these uncovered contractors, in this order (R80). -/
def adoptedBy (l : List Occupant) (escort : Credential) (cs : List Credential) : List Occupant :=
  l.map fun o =>
    if o.cred = escort then { o with covers := o.covers ++ cs }
    else if o.cred ∈ cs then { o with coveredBy := some escort, uncovered := false }
    else o

/-- The room's uncovered contractors, oldest first (R80). -/
def uncoveredIn (s : State) (r : RoomId) : List Credential := ((s.inRoom r).filter fun o => o.uncovered).map fun o => o.cred

/-- What a released contractor keeps when no escort takes it: no covering escort, and the uncovered mark (R123, R124). -/
def uncoveredMark (l : List Occupant) (cs : List Credential) : List Occupant :=
  l.map fun o => if o.cred ∈ cs then { o with coveredBy := none, uncovered := true } else o

/-- The ESCORT_LOSS record (R122, R123). -/
def escortLossEntry (o : Occupant) (lost new : Option Credential) : JournalEntry :=
  { kind := .escortLoss, room := some o.room, cred := some o.cred, permit := some o.permit, detail := .escortLoss lost new }

/-- A released contractor handled (R121 to R124): reassigned to the oldest escort of its room with spare cover, never the
one that lost it, or marked uncovered and curtailed with the grace 300 s; in an EVACUATING room it is marked alone. -/
def escortLost (lost : Option Credential) (s : State) (c : Credential) : State :=
  match s.record? c with
  | none => s
  | some o =>
    match (s.room o.room).mode with
    | .evacuating => { s with roster := uncoveredMark s.roster [c] }
    | .muster => s
    | .inService | .closed =>
      let t : State := { s with roster := s.roster.map fun x => if x.cred = c then { x with coveredBy := none } else x }
      match (t.inRoom o.room).find? fun x => decide (0 < t.spareCover x ∧ lost ≠ some x.cred) with
      | some e => ({ t with roster := linked t.roster c e.cred } : State).write (escortLossEntry o lost (some e.cred))
      | none =>
        curtailedAs .escortLoss 300
          (({ t with roster := uncoveredMark t.roster [c] } : State).write (escortLossEntry o lost none)) c

/-- The record a removal has left alone in its room (R101, R127, R129): in a PAIRED room its partner is lost, with
PARTNER_LOSS and a curtailment of 300 s; INSIDE a room with a check interval it takes a CHECK entry. -/
def leftAlone (s : State) (gone : Occupant) (o : Occupant) : State :=
  let t :=
    if (s.room gone.room).settings.presence = .paired then
      curtailedAs .partnerLoss 300
        (s.write { kind := .partnerLoss, room := some o.room, cred := some o.cred, permit := some o.permit,
                   detail := .partner gone.cred }) o.cred
    else s
  if 0 < (s.room gone.room).settings.checkInterval ∧ o.state = .inside then
    t.arm (.check o.cred) (min (s.now + 60 * (s.room o.room).settings.checkInterval) 4294967295)
  else t

/-- The effects of a removal on the records left in its room (R101): escort loss for each contractor the record covered and
then what befalls a record left alone; in an EVACUATING room the uncovered marks alone (R124); in MUSTER nothing. -/
def afterRemoval (s : State) (o : Occupant) : State :=
  match (s.room o.room).mode with
  | .muster => s
  | .evacuating => { s with roster := uncoveredMark s.roster o.covers }
  | .inService | .closed =>
    let t := o.covers.foldl (escortLost (some o.cred)) s
    match t.inRoom o.room with
    | [x] => leftAlone t o x
    | _ => t

/-! ### Admission -/

/-- A pending pairing has ended with REFUSE PAIR_CANCELLED (R88). -/
def slotCancelled (s : State) (d : DoorId) (q : Pairing) : State := slotRefused s d q .pairCancelled none

/-- The refusal of steps 6 and 8 to 13 for a presenter with no record, and the permit number it carries (R65, R68 to R75). -/
def laterRefusal (s : State) (r : RoomId) (c : Credential) : Option (Reason × Option PermitNo) :=
  if s.permits.all (fun m => m.defn.cred != c) then some (.unknownCredential, none)
  else
    match s.selectPermit r c with
    | .refused reason n => some (reason, n)
    | .chosen m _ =>
      if m.defn.kind = .contractor ∧ 192 ≤ s.journal.length then some (.journalFull, none)
      else if m.defn.kind = .contractor ∧ (s.room r).doorAlarm = true then some (.doorAlarm, none)
      else if (s.room r).settings.isolationRequired = true ∧ s.isolation r ≠ .confirmed then some (.isolation, none)
      else if (s.room r).settings.maxOccupancy ≤ s.presentCount r then some (.roomFull, none)
      else if 96 ≤ s.roster.length then some (.rosterFull, none)
      else none

/-- What a second presentation refused at steps 6 to 13 makes of its door's slot: it stands as it was (R83). Where the second
and the first presenter are both refused ISOLATION now, R141 has it end with the first's REFUSE ISOLATION; which of the two
rules holds there is a free value (log entry 57). -/
def slotAfterRefusal (s : State) (r : RoomId) (d : DoorId) (reason : Reason) : State :=
  match s.pairing d with
  | none => s
  | some q =>
    if reason = .isolation ∧ laterRefusal s r q.cred = some (.isolation, none) ∧ Config.isolationEndsPairing = true then
      slotRefused s d q .isolation none
    else s

/-- The roster after one person's record has been added last and covered (R77, R79, R80): an escort adopts the room's
uncovered contractors up to its cover limit; a contractor that needs an escort is linked to the oldest with spare cover. -/
def grantedRoster (s : State) (r : RoomId) (c : Credential) (m : Permit) (l : List Occupant) : List Occupant :=
  match m.defn.kind with
  | .escort => adoptedBy l c ((uncoveredIn s r).take (m.defn.coverLimit.getD 0))
  | .contractor =>
    if m.defn.requirement = .escort then
      match s.oldestEscort r with
      | some e => linked l c e.cred
      | none => l
    else l

/-- The deadlines of a grant: ARRIVE 30 s on, and STAY 300 s before the allowance end, or at it where the allowance is
300 s (R78). -/
def grantArmed (s : State) (c : Credential) (a : Nat) : State :=
  (s.arm (.arrive c) (min (s.now + 30) 4294967295)).arm (.stay c)
    (if 300 < a then min (s.now + a) 4294967295 - 300 else min (s.now + a) 4294967295)

/-- The one earlier record of a room is no longer alone: its CHECK entry goes, and a lone alarm is cleared with
LONE_RECOVERED (COMPANY) in the journal and at the room's doors (R130, R133). -/
def companyFound (s : State) (earlier : List Occupant) : State :=
  match earlier with
  | [o] =>
    let t : State := { s with deadlines := s.deadlines.filter fun e => e.owner != .check o.cred }
    if o.loneAlarm then
      (({ t with roster := t.roster.map fun x => if x.cred = o.cred then { x with loneAlarm := false } else x } :
        State).write { kind := .loneRecovered, room := some o.room, cred := some o.cred, permit := some o.permit,
                       detail := .recovered true }).notify o.room { kind := .loneRecovered, cred := some o.cred }
    else t
  | _ => s

/-- A presenter granted alone, its answer already placed (R77 to R80, R59, R130, R133). -/
def grantedAlone (s : State) (r : RoomId) (d : DoorId) (c : Credential) (m : Permit) (a : Nat) : State :=
  companyFound
    (({ s with
      roster := grantedRoster s r c m (s.roster ++ [grantedAs s c m.defn.number r d a])
      deadlines := (grantArmed s c a).deadlines } : State).write (grantEntry r d c m.defn.number a))
    (s.inRoom r)

/-- The covering escorts of a pair, first presenter and second (R86 step 1): the escort of the pair, else the oldest escort
with spare cover, counting what the first of the two has taken. -/
def pairEscorts (s : State) (r : RoomId) (c1 : Credential) (m1 : Permit) (c2 : Credential) (m2 : Permit) :
    Option Credential × Option Credential :=
  let first :=
    if requiresEscort m1.defn then
      if m2.defn.kind = .escort then some c2 else (s.oldestEscort r).map fun o => o.cred
    else none
  let second :=
    if requiresEscort m2.defn then
      if m1.defn.kind = .escort then some c1
      else ((s.inRoom r).find? fun o => decide ((if first = some o.cred then 1 else 0) < s.spareCover o)).map
        fun o => o.cred
    else none
  (first, second)

/-- The contractors an escort of a pair can adopt, its own partner counted (R86 step 2). -/
def pairSpare (m : Permit) (c : Credential) (partner : Option Credential) : Nat :=
  if m.defn.kind = .escort then m.defn.coverLimit.getD 0 - (if partner = some c then 1 else 0) else 0

/-- The roster after a pair's two records have been added last and covered (R86); of two escorts the first presenter adopts
first, which is the model's choice (log entry 54). -/
def pairRoster (s : State) (r : RoomId) (c1 : Credential) (m1 : Permit) (c2 : Credential) (m2 : Permit)
    (l : List Occupant) : List Occupant :=
  let e := pairEscorts s r c1 m1 c2 m2
  let l1 := e.1.elim l fun x => linked l c1 x
  let l2 := e.2.elim l1 fun x => linked l1 c2 x
  let w := uncoveredIn s r
  let k := pairSpare m1 c1 e.2
  adoptedBy (adoptedBy l2 c1 (w.take k)) c2 ((w.drop k).take (pairSpare m2 c2 e.1))

/-- A pair granted, its answers already placed and its slot emptied (R86). -/
def grantedTogether (s : State) (r : RoomId) (d : DoorId) (c1 : Credential) (m1 : Permit) (a1 : Nat) (c2 : Credential)
    (m2 : Permit) (a2 : Nat) : State :=
  companyFound
    ((({ s with
      roster := pairRoster s r c1 m1 c2 m2
        (s.roster ++ [grantedAs s c1 m1.defn.number r d a1, grantedAs s c2 m2.defn.number r d a2])
      deadlines := (grantArmed (grantArmed s c1 a1) c2 a2).deadlines } : State).write
        (grantEntry r d c1 m1.defn.number a1)).write (grantEntry r d c2 m2.defn.number a2))
    (s.inRoom r)

/-- The first condition of the joint test that two presenters fail (R85). -/
def jointRefusal (s : State) (r : RoomId) (m1 m2 : Permit) : Option Reason :=
  if (s.room r).settings.maxOccupancy < s.presentCount r + 2 then some .roomFull
  else if 96 < s.roster.length + 2 then some .rosterFull
  else if s.pairCovered r m1 m2 = false then some .pairMismatch
  else none

/-- A presenter whom steps 1 to 13 pass with this permit and allowance, at a door with an empty slot: granted with no need,
else PENDING in the slot with its PAIR entry (R76, R77, R82). -/
def decidedAlone (s : State) (p : PortId) (r : RoomId) (d : DoorId) (c : Credential) (m : Permit) (a : Nat) : State :=
  if needs s r m = { escort := false, partner := false } then grantedAlone (s.place p (grantItem d c a)) r d c m a
  else
    (((s.place p (.decision (doorByte d) c (.pending (needs s r m)))).setPairing d
      (some { cred := c, need := needs s r m, time := s.now })).arm (.pair d) (min (s.now + 30) 4294967295))

/-- A presentation has received its refusal (R59). -/
def presentationRefused (s : State) (p : PortId) (r : RoomId) (d : DoorId) (c : Credential) (reason : Reason)
    (n : Option PermitNo) : State :=
  (s.place p (.decision (doorByte d) c (.refuse reason))).write (refuseEntry (some r) (doorByte d) c reason n)

/-- The decision at an IN_SERVICE room of a presenter with no record and no pending pairing, its answer and all its
effects (R60, steps 6 to 14): its own refusal, with what it makes of a first presenter's slot (R83, R141); alone at an
empty slot; and at a door with a first presenter, which is decided again, alone after the first's refusal, refused by the
joint test, or granted with the first (R84 to R86). -/
def presentationDecided (s : State) (p : PortId) (r : RoomId) (d : DoorId) (c : Credential) : State :=
  match laterRefusal s r c, s.selectPermit r c with
  | some (reason, n), _ => presentationRefused (slotAfterRefusal s r d reason) p r d c reason n
  | none, .refused _ _ => s
  | none, .chosen m a =>
    match s.pairing d with
    | none => decidedAlone s p r d c m a
    | some q =>
      match s.decidePerson r q.cred with
      | .refused reason n => decidedAlone (slotRefused s d q reason n) p r d c m a
      | .chosen m1 a1 =>
        match jointRefusal s r m1 m with
        | some reason => presentationRefused s p r d c reason none
        | none =>
          grantedTogether ((slotEmptied (s.place p (grantItem d q.cred a1)) d).place p (grantItem d c a)) r d q.cred m1 a1
            c m a

/-! ### Batches -/

/-- The permit table with a staged definition applied, as the table conditions read it: the record of its number replaced, or
a new one made, ACTIVE (R15, R16). -/
def tableWith (table : List Permit) (d : PermitDef) : List Permit :=
  (table.filter fun p => p.defn.number != d.number) ++ [{ defn := d, state := .active, used := 0, storePending := true }]

/-- The table condition that a staged record fails first, in the order of R15. -/
def tableRefusal (s : State) (table : List Permit) (d : PermitDef) : Option BatchError :=
  let used : Bool := s.roster.any fun o => o.permit == d.number
  match table.find? fun p => p.defn.number == d.number with
  | none =>
    if 1024 ≤ table.length then some .full
    else if 8 ≤ (table.filter fun p => p.defn.cred == d.cred).length then some .credentialLimit
    else none
  | some p =>
    if 8 ≤ (table.filter fun q => q.defn.cred == d.cred && q.defn.number != d.number).length then some .credentialLimit
    else if p.state = .revoked then some .revokedNumber
    else if used = true ∧ d.cred ≠ p.defn.cred then some .credentialInUse
    else if used = true ∧ d.kind ≠ p.defn.kind then some .kindInUse
    else none

/-- The staged records before a place, and the failure of the record at it, each tested with those before it applied (R15). -/
def stagedRefusal (s : State) (before : List PermitDef) (d : PermitDef) : Option BatchError :=
  tableRefusal s (before.foldl tableWith s.permits) d

/-- A batch that passes the transport checks with this close's check value (R175): no error kept, every declared record
received and none beyond, and the running check as given. -/
def ReceivedWhole (s : State) (check : Word16) : Prop :=
  s.batch.kept = none ∧ s.batch.declared ≤ s.batch.received ∧ s.batch.overrun = false ∧ s.batch.check = check

/-- BATCH_DONE REJECTED: the error and its ordinal, and the machine is IDLE again (R175); its items at 0 then are the model's
choice (log entry 22). -/
def batchRejected (s : State) (tag : Byte) (error : BatchError) (ordinal : Nat) : State :=
  { s with
    link := { takenOnly s false with
      replies := s.link.replies ++ [.batchDone tag s.batch.id (some error) ordinal] }
    batch := .idle }

/-! ### DOOR_SET, EXTEND, replacements, held classes -/

/-- The first test of DOOR_SET that fails, and its reply (R39); an unmapping is tested at orders 1 to 3 only. -/
def doorSetRefusal (s : State) (door : Byte) (target : Option (Byte × Byte)) : Option ReplyResult :=
  if h : door.toNat < 32 then
    let d : DoorId := ⟨door.toNat, h⟩
    let old := (s.door d).any fun m => !(s.room m.room).mode.isOrdinary
    match target with
    | none => if (s.pairing d).isSome || old then some .state else none
    | some (room, port) =>
      if hr : room.toNat < 16 then
        if hp : port.toNat < 4 then
          let r : RoomId := ⟨room.toNat, hr⟩
          let p : PortId := ⟨port.toNat, hp⟩
          if (s.pairing d).isSome || old || !(s.room r).mode.isOrdinary then some .state
          else if 8 ≤ (allDoors.filter fun e => e != d && (s.door e).any fun m => m.port == p).length then some .range
          else if 4 ≤ (allDoors.filter fun e => e != d && (s.door e).any fun m => m.room == r).length then some .range
          else none
        else some .range
      else some .range
  else some .range

/-- The allowance A of EXTEND (R111): the smallest candidate among the continuous stay, the budget less the stay in progress,
the window and the daily hours less the margin, rounded down to a whole minute, and 0 where it is below 0; the window and
the hours are passed over for an ESCORT permit while the clock is not SET. The end of the continuous stay is held at the
last estate time (R45). -/
def extensionOf (s : State) (o : Occupant) (m : Permit) : Nat :=
  let margin : Int := if m.defn.kind = .contractor then ((min (s.clock.elapsed / 1024) 3600 + 59) / 60 * 60 : Nat) else 0
  let window : List Int := [m.defn.windowEnd - margin - s.now]
  let hours : List Int := m.defn.hours.elim [] fun h => [h.2 - margin - (s.now % 86400 : Nat)]
  let stay : Int := (min (o.entryTime + 60 * (s.room o.room).settings.maxStay) 4294967295 : Nat) - s.now
  let budget : List Int :=
    m.defn.budget.elim [] fun b => [60 * max 0 ((b : Int) - m.used - ((s.now - o.chargeStart + 59) / 60 : Nat))]
  let timed : List Int := if m.defn.kind = .escort ∧ s.clock.status ≠ .set then [] else window ++ hours
  ((timed ++ budget).foldl min stay).toNat / 60 * 60

/-- The first test of EXTEND that fails, and its reply (R110). -/
def extendRefusal (s : State) (c : Credential) : Option ReplyResult :=
  match s.record? c with
  | none => some .unknownCredential
  | some o =>
    if o.state = .unaccounted ∨ (s.room o.room).mode.isOrdinary = false then some .state
    else
      match s.permit? o.permit with
      | none => some .state
      | some m =>
        if m.state ≠ .active ∨ namesRoom m.defn o.room = false then some .state
        else if m.defn.kind = .contractor ∧ s.clock.status ≠ .set then some .clock
        else if o.uncovered = true ∨ ((s.room o.room).settings.presence = .paired ∧ s.presentCount o.room = 1) then
          some .state
        else if passesUntimed m.defn s.clock.status = false ∧
            insideWindow m.defn (permitMargin m.defn s.clock.elapsed) s.now = false then some .outsideWindow
        else if extensionOf s o m < 300 ∨ min (s.now + extensionOf s o m) 4294967295 ≤ o.allowanceEnd then some .noGain
        else none

/-- What the replacement of a permit in use makes of its occupant (R18, R19, R20): a room no longer named curtails it
REVISED with 600 s; a contractor's changed escort requirement sends it through escort loss, or frees it of its link and
mark; a cover limit below the covered list cuts the list, and those cut off go through escort loss in their order. -/
def occupantRevised (old new : PermitDef) (o : Occupant) (s : State) : State :=
  let a := if namesRoom new o.room then s else curtailedAs .revised 600 s o.cred
  if new.kind = .contractor then
    if o.state = .unaccounted ∨ old.requirement = new.requirement then a
    else if new.requirement = .escort then escortLost none a o.cred
    else
      { a with roster := a.roster.map fun x =>
          { x with
            covers := x.covers.filter (· != o.cred)
            coveredBy := if x.cred = o.cred then none else x.coveredBy
            uncovered := if x.cred = o.cred then false else x.uncovered } }
  else if new.coverLimit.getD 0 < o.covers.length then
    (o.covers.drop (new.coverLimit.getD 0)).foldl (escortLost (some o.cred))
      { a with roster := a.roster.map fun x =>
          if x.cred = o.cred then { x with covers := x.covers.take (new.coverLimit.getD 0) } else x }
  else a

/-- ISOLATION_LOST in the journal and at the doors of the room (R143, R145). -/
def isolationLostIn (s : State) (r : RoomId) (st : IsolationState) (atStart : Bool) : State :=
  (s.write { kind := .isolationLost, room := some r, detail := .isolationLost st (s.presentCount r) atStart }).notify r
    { kind := .isolationLost, detail := .isolation st }

/-- The outputs of a held-class change (R142 to R145): ISOLATION_CHANGE where the room's setting selects it; in an occupied
room ISOLATION_LOST at a change from ACTIVE, and at the first change after start-up to any other class; ISOLATION_RESTORED
at a return to ACTIVE from INACTIVE, SHORT or OPEN. -/
def classOutputs (s : State) (r : RoomId) (before after : HeldClass) (first : Bool) : State :=
  let lost : IsolationState := if after = .inactive then .notConfirmed else .fault
  let t :=
    if (s.room r).settings.events = .all ∨ (∃ x ∈ [before, after], x = .short ∨ x = .openLoop) then
      s.write { kind := .isolationChange, room := some r, detail := .heldChange before after }
    else s
  if s.presentCount r = 0 then t
  else if first then if after = .active then t else isolationLostIn t r lost true
  else if before = .active then isolationLostIn t r lost false
  else if before ≠ .unknown ∧ after = .active then t.notify r { kind := .isolationRestored }
  else t

/-! ### Start-up -/

/-- The snapshot's records that stand (R186 step 4): the permit is present with the record's credential and kind, and the
room is in use. -/
def standing (s : State) (sn : Snapshot) : List (Occupant × PermitKind) :=
  sn.records.filter fun x =>
    (s.permits.find? fun m => m.defn.number == x.1.permit).any
        (fun m => m.defn.cred == x.1.cred && m.defn.kind == x.2) &&
      (s.room x.1.room).settings.inUse

/-- What a standing record is restored as (R186 step 4, R55, R159), its cover and stage apart; `before` is the clock value
at the warning where a backup loss rebases the times, else 0. -/
def restoredAs (s : State) (before : Nat) (o : Occupant) : Occupant :=
  { o with
    state := if o.state = .arriving then .inside else o.state
    arrivalOpen := false
    entryTime := o.entryTime - before
    chargeStart := o.chargeStart - before
    allowanceEnd := min (o.allowanceEnd - before)
      (min (o.entryTime - before + 60 * (s.room o.room).settings.maxStay) 4294967295)
    evacTime := o.evacTime.map (· - before) }

/-- A record's rebuilt permit is a CONTRACTOR's that requires an escort (R135). -/
def escortNeeded (s : State) (o : Occupant) : Bool :=
  (s.permits.find? fun m => m.defn.number == o.permit).any fun m =>
    m.defn.kind == .contractor && m.defn.requirement == .escort

/-- What is left of a covered list (R135): the contractors restored that still need an escort, in their order, as many as the
rebuilt cover limit admits; none where the rebuilt permit gives no escort capacity. -/
def coversRepaired (s : State) (roster : List Occupant) (o : Occupant) : List Credential :=
  match s.permits.find? fun m => m.defn.number == o.permit with
  | none => []
  | some m =>
    if m.defn.kind = .escort ∧ m.state ≠ .revoked then
      (o.covers.filter fun c => roster.any fun x => x.cred == c && escortNeeded s x).take (m.defn.coverLimit.getD 0)
    else []

/-- A restored record with its cover brought into line with the rebuilt permits, given the records restored (R135): a covering
escort that still lists it is kept, and one left without where its permit requires an escort is marked uncovered, but not in
MUSTER. -/
def CoverRepaired (s t : State) (before o : Occupant) : Prop :=
  o.covers = coversRepaired s t.roster before ∧
  o.coveredBy = before.coveredBy.filter (fun e => t.roster.any fun x => x.cred == e && x.covers.contains o.cred) ∧
  o.uncovered = (escortNeeded s before &&
    (before.uncovered || (o.coveredBy.isNone && (t.room o.room).mode != .muster)))

/-- A restored record is INSIDE a room that is IN_SERVICE or CLOSED, so that its stage is set and its entries are armed. -/
def stageSet (t : State) (o : Occupant) : Bool := o.state == .inside && (t.room o.room).mode.isOrdinary

/-- The entries that start-up arms for a restored record (R116): STAY at the next boundary of its stage, and CHECK where it is
alone in a room with a check interval. -/
def ArmedAtStart (t : State) (o : Occupant) (e : Deadline) : Prop :=
  (∃ due, stayDueAt o.stage o.allowanceEnd (t.room o.room).settings.grace = some due ∧
    e = { due := due, owner := .stay o.cred }) ∨
  (t.presentCount o.room = 1 ∧ 0 < (t.room o.room).settings.checkInterval ∧
    e = { due := min (t.now + 60 * (t.room o.room).settings.checkInterval) 4294967295, owner := .check o.cred })

/-- A room as the snapshot gives it (R186 step 1): one in use takes its modes and its door alarm. -/
def roomOfSnapshot (s : State) (sn : Snapshot) (r : RoomId) : Room :=
  if (s.room r).settings.inUse then
    { s.room r with
      mode := (sn.rooms.get r).1, prior := (sn.rooms.get r).2.1, doorAlarm := (sn.rooms.get r).2.2 }
  else s.room r

/-- A room after the restore (R186 step 1, R159): one in use takes the snapshot's modes and door alarm; one in MUSTER that
no restored record stands in takes its prior mode. -/
def roomRestored (s t : State) (sn : Snapshot) (r : RoomId) : Room :=
  let x := roomOfSnapshot s sn r
  if x.mode = .muster ∧ t.presentCount r = 0 then { x with mode := x.prior } else x

/-- The first outputs of a restore (R159 step 3, R181): ROOM_MODE (MUSTER_CLEARED), and no notice, for each room restored in
MUSTER that no restored record stands in, in ascending order by the model's choice (log entry 56). -/
def mustersLeft (s t : State) (sn : Snapshot) : State :=
  allRooms.foldl (fun u r =>
    if (roomOfSnapshot s sn r).mode = .muster ∧ t.presentCount r = 0 then
      u.write { kind := .roomMode, room := some r
                detail := .musterCleared .muster (roomOfSnapshot s sn r).prior }
    else u) s

/-- The outputs of a restored record's stage, where it is later than the one held at the warning (R116, R106). -/
def stageRestored (sn : Snapshot) (u : State) (o : Occupant) : State :=
  match sn.records.find? fun x => x.1.cred == o.cred with
  | some x => if x.1.stage.rank < o.stage.rank then stageTold u o o.stage else u
  | none => u

/-- The outputs of a restore (R181): those of the emptied MUSTER rooms, then those of the stages set, room by room in
ascending order and each room's records in theirs (log entry 34). -/
def restoreOutputs (s t : State) (sn : Snapshot) : State :=
  (allRooms.flatMap fun r => (t.inRoom r).filter (stageSet t)).foldl (stageRestored sn) (mustersLeft s t sn)

/-- Nothing of start-up's own flash work is left (R185, R186). -/
def StartUpSettled (s : State) : Prop := s.store.engine = none ∧ s.store.toRetire = [] ∧ s.snap.toConsume = false

/-- A room in use as the part becomes RUNNING in an evacuation (R159): its doors receive EVAC_RELEASE again where it is
EVACUATING, else it is taken into the evacuation (R150, steps 1 to 4). -/
def roomResumed (s : State) (r : RoomId) : State :=
  if (s.room r).mode = .evacuating then s.notify r { kind := .evacRelease } else roomTaken s r

/-- No change to LOST is owed by the present second (R45, R48). -/
def LostNotOwed (s : State) : Prop := s.clock.status ≠ .set ∨ s.clock.elapsed < 3686400

/-- The part become RUNNING with no evacuation called (R186). -/
def runningAgain (s : State) : State :=
  { s with part := .running, backupLost := false, evac := { s.evac with samples := 0, active := false } }

end Sys2Proof.Claims

section ObligationStatements

open Sys2Proof Sys2Proof.Machine Sys2Proof.Claims

/-! ## The machine and its laws -/

/-- A step runs the command at the front of the queue on the state with the rest of the queue; on an empty queue the part
idles, which is the model's choice (log entry 1). -/
def Obligations.StepRunsFrontCommand : Prop :=
  (∀ (s : State) (c : Instr) (rest : List Instr), s.pending = c :: rest → step s = exec c (s.withPending rest)) ∧
    ∀ s : State, s.pending = [] → step s = .next s

/-- What the first power-on leaves (R43, R55, R116, R118, R160, R168, R170, R176, R181): the power-on cause, the lost backup
domain and the store never written are the model's choice (log entry 2). -/
def Obligations.ResetState : Prop :=
  State.reset.pending = [] ∧ State.reset.part = .starting ∧ State.reset.supply = .normal ∧
  State.reset.clock = { value := 0, elapsed := 0, status := .unset, budgetDay := none } ∧
  State.reset.permits = [] ∧ State.reset.roster = [] ∧ State.reset.deadlines = [] ∧
  (∀ r : RoomId, State.reset.room r =
    { settings :=
        { inUse := false, isolationRequired := false, presence := .any, maxOccupancy := 1, maxStay := 5,
          checkInterval := 0, grace := 0, events := .all }
      mode := .closed, prior := .closed, doorAlarm := false }) ∧
  (∀ d : DoorId, State.reset.door d = none ∧ State.reset.pairing d = none) ∧
  (∀ r : RoomId, (State.reset.channel r).held = none) ∧
  (State.reset.evac.held = .inactive ∧ State.reset.evac.candidate = none ∧ State.reset.evac.hold = false ∧
    State.reset.evac.carryOver = false ∧ State.reset.evac.active = false) ∧
  (∀ p : PortId, (State.reset.port p).queue = [] ∧ (State.reset.port p).outcome = .starting) ∧
  (State.reset.link.up = false ∧ State.reset.link.credits = 0 ∧ State.reset.link.places = [] ∧
    State.reset.link.replies = [] ∧ State.reset.link.effectiveMax = 240) ∧
  State.reset.batch.phase = .idle ∧
  (State.reset.muster.kind = 1 ∧ State.reset.muster.room = 0 ∧ State.reset.muster.ordinal = 0 ∧
    State.reset.muster.kept = none) ∧
  State.reset.store.slots = [] ∧ State.reset.store.queue = [] ∧ State.reset.snap.content = none ∧
  State.reset.journal.map (·.entry) =
    [{ kind := .start, detail := .cause .powerOn }, { kind := .clock, detail := .clockStatus .unset }] ∧
  State.reset.gapPending = false

/-- The laws of the part hold right after the first power-on. -/
def Obligations.LawsHoldAtReset : Prop :=
  State.reset.clockLaw ∧ State.reset.journalLaw ∧ State.reset.evacLaw ∧ State.reset.usedLaw ∧ State.reset.permitLaw ∧
  State.reset.modesLaw ∧ State.reset.rosterLaw ∧ State.reset.deadlineLaw ∧ State.reset.portLaw ∧ State.reset.linkLaw ∧
  State.reset.queueLaw ∧ State.reset.slotLaw ∧ State.reset.allowanceLaw ∧ State.reset.personLaw ∧ State.reset.standLaw ∧
  State.reset.limitLaw ∧ State.reset.definedLaw ∧ State.reset.occupancyLaw ∧ State.reset.referLaw ∧ State.reset.coverLaw ∧
  State.reset.dayArmedLaw ∧ State.reset.eraseLaw

/-- Every step keeps the clock's items within their values (R44, R45), the journal within its 256 records (R179), and the
credits and receive places within their counts (R169, R171). -/
def Obligations.BoundsKept : Prop :=
  ∀ s t : State, s.clockLaw → s.journalLaw → s.linkLaw → step s = .next t → t.clockLaw ∧ t.journalLaw ∧ t.linkLaw

/-- Every step keeps used-today between 0 and the budget (R21) and the permit numbers unique (R5); it keeps only well-formed
definitions in the table, in the store and among a batch's staged records (R3); every record's permit stays present with
the record's credential (R14, R5); and every step but a device reset, which rebuilds the table from the store, keeps the
table within 1024 records and a credential within 8 of them (R5). -/
def Obligations.PermitTableKept : Prop :=
  (∀ s t : State, s.usedLaw → s.permitLaw → step s = .next t → t.usedLaw ∧ t.permitLaw) ∧
  (∀ s t : State, s.definedLaw → step s = .next t → t.definedLaw) ∧
  (∀ s t : State, s.personLaw → s.permitLaw → s.referLaw → step s = .next t → t.referLaw) ∧
  (∀ s t : State, (∀ cause lost rest, s.pending ≠ .deviceReset cause lost :: rest) → s.permitLaw → s.limitLaw →
    step s = .next t → t.limitLaw)

/-- Every step keeps the evacuation active exactly while one of its three sources calls for it (R148). -/
def Obligations.EvacuationFollowsSources : Prop :=
  ∀ s t : State, s.evacLaw → step s = .next t → t.evacLaw

/-- Every step keeps each room's prior mode IN_SERVICE or CLOSED and equal to the mode while that is IN_SERVICE or CLOSED
(R31), in the snapshots too. -/
def Obligations.PriorModeKept : Prop :=
  ∀ s t : State, s.modesLaw → step s = .next t → t.modesLaw

/-- Every step keeps the roster within 96 records (R90), in the snapshots too, each room's present count within its maximum
occupancy (R90) and, one record to a credential, each record's allowance at most 60 times its room's maximum continuous stay
(R112). -/
def Obligations.RosterLimitsKept : Prop :=
  (∀ s t : State, s.rosterLaw → step s = .next t → t.rosterLaw) ∧
  (∀ s t : State, s.occupancyLaw → step s = .next t → t.occupancyLaw) ∧
  (∀ s t : State, s.personLaw → s.allowanceLaw → step s = .next t → t.allowanceLaw)

/-- Every step keeps the deadline queue in order of due time (R114), one entry to a slot (R113), and no DAY entry while
the budget day is absent (R52); and with that it keeps a DAY entry armed while the budget day is present, due at the
midnight after it, save where that midnight is past the last estate time, where none is (R52, R53). -/
def Obligations.DeadlineQueueKept : Prop :=
  (∀ s t : State, s.deadlineLaw → step s = .next t → t.deadlineLaw) ∧
  ∀ s t : State, s.deadlineLaw → s.dayArmedLaw → step s = .next t → t.dayArmedLaw

/-- Every step keeps a place free in a port's queue for every decision owed to it (R165). -/
def Obligations.OwedDecisionsFindPlaces : Prop :=
  ∀ s t : State, s.portLaw → step s = .next t → t.portLaw

/-- Every step keeps the write queue within 32 places, and full while an applied batch still has writes to queue (R182,
R175); it keeps the slots in their canonical form and the engine's work inside the main area (R182, R183); and it keeps
the page of an erase in flight DIRTY (R182). -/
def Obligations.StoreKept : Prop :=
  (∀ s t : State, s.queueLaw → step s = .next t → t.queueLaw) ∧ (∀ s t : State, s.slotLaw → step s = .next t → t.slotLaw) ∧
  ∀ s t : State, s.eraseLaw → step s = .next t → t.eraseLaw

/-- Every step keeps one record at most and one pending pairing at most for a credential, and not both (R90, R81); with
that it keeps the records' states such as their rooms' modes allow (R91, R153, R156); and with those and a sound permit
table it keeps the cover links in step, within the cover limits and between records of one room that are ARRIVING or INSIDE
(R119), and every such contractor whose permit requires an escort covered or marked uncovered (R125). -/
def Obligations.SupervisionKept : Prop :=
  (∀ s t : State, s.personLaw → step s = .next t → t.personLaw) ∧
  (∀ s t : State, s.personLaw → s.standLaw → step s = .next t → t.standLaw) ∧
  (∀ s t : State, s.personLaw → s.standLaw → s.permitLaw → s.definedLaw → s.referLaw → s.coverLaw → step s = .next t →
    t.coverLaw)

/-! ## Encodings -/

/-- A well-formed permit definition is read back from its 32 bytes as it was, every field at every value it may have; and
ROOM_SET's seven bytes are read back as the room and the settings they were made from. -/
def Obligations.DefinitionBytesReadBack : Prop :=
  (∀ d : PermitDef, d.wellFormed = true → d.windowEnd < 2 ^ 32 →
     (encodePermit d).length = 32 ∧ decodePermit (encodePermit d) = some d) ∧
  (∀ (room : Byte) (st : RoomSettings), st.maxOccupancy < 256 → st.maxStay < 65536 → st.checkInterval < 256 →
     st.grace < 256 → decodeCommand 21 (encodeSettings room.toNat st) = some (.roomSet room st))

/-! ## Door ports -/

/-- An exchange that takes no request changes nothing but its own port's held outcome and shifted bytes: a status poll, an
exchange while STARTING or LOW_POWER, a BAD_FRAME, and a frame the queue test refuses (R163, R164, R165). -/
def Obligations.RequestsNotTakenChangeNothing : Prop :=
  ∀ (s : State) (p : PortId) (x : Exchange), ∀ row ∈ portRequests p x, ∀ o : PortOutcome,
    notTaken s p x row.2.1 row.2.2.1 row.2.2.2.1 row.2.2.2.2 = some o →
    ∃ t, exec row.1 s = .next t ∧
      t = s.setPort p
        { s.port p with outcome := o, lastStatus := s.statusByte p, lastShift := (t.port p).lastShift }

/-- An IN presentation refused, its decision and its REFUSE record its own effects (R59): UNKNOWN_DOOR at a door not
mapped to the port or of a room not in use (R61); CLOSED, EVAC or MUSTER by the room's mode (R63); DUPLICATE where the
presenter waits at this door, while a pairing it holds at another door is cancelled first (R64); UNKNOWN_CREDENTIAL (R65);
PASSBACK where it stands in another room (R66); and the refusals of steps 8 to 13. A first presenter that waits at the
door keeps its slot, with its need, its presentation time and its PAIR entry, at each of these refusals (R83), but where
the presenter and the first presenter are both refused ISOLATION now: there R141 has the slot end first with the first
presenter's REFUSE ISOLATION, and which of the two rules holds is a free value (log entry 57). An UNACCOUNTED record of
the presenter is accounted first, charged to its evacuation time (R62); a record in the door's room ends as a re-entry,
charged to now, with EXIT (REENTRY) and no EXIT_RESULT, its removal effects follow (R101), and the presentation is decided
on (R67): after either, and after a cancelled pairing, on the state that this has left. The permit number and the detail
of a REFUSE record are as log entry 15 reads R59, and a record that the removal curtails while held OVER or ALARM keeps
its allowance end, its stage and its STAY entry, also after a backward mark, as log entry 59 reads R108. The model's
choices: at a door above 31 the answer and the record carry the byte named (log entry 14), a record with no evacuation
time, which no run reaches, is charged to 0 (log entry 46), of two escorts the first presenter adopts first (log entry
54), and a record curtailed by the removal while held WITHIN or DUE past its allowance end takes OVER or ALARM (log entry
60). -/
def Obligations.PresentationRefusedAtDoor : Prop :=
  (∀ (s : State) (p : PortId) (door : Byte) (payload extra : List Byte),
     payload.length = 5 → CanTake s p 2 →
     (∀ d m, doorOfNat door.toNat = some d → s.door d = some m → m.port = p → (s.room m.room).settings.inUse = false) →
     exec (.presentIn p (frameOf 1 door payload extra)) s =
       .next ((portTaken s p [.decision door (payloadCredential payload) (.refuse .unknownDoor)]).write
         (refuseEntry (s.roomOfDoor door) door (payloadCredential payload) .unknownDoor none))) ∧
  (∀ (s : State) (p : PortId) (r : RoomId) (d : DoorId) (payload extra : List Byte) (c : Credential),
     payload.length = 5 → c = payloadCredential payload → CanTake s p 2 → s.door d = some { room := r, port := p } →
     (s.room r).settings.inUse = true →
     (∀ o, s.record? c = some o → o.state = .unaccounted →
       ∃ t, exec (.presentIn p (frameOf 1 (doorByte d) payload extra)) s = .next t ∧
         t.permits = chargedTo s o.permit ((o.evacTime.getD 0 - o.chargeStart + 59) / 60) ∧
         t.rooms = roomsAfterLast s o.room (s.roster.all fun x => x.room != o.room || x.cred == c) ∧
         ((s.roster.filter fun x => x.cred != c).map person) <+: t.roster.map person ∧ QueuesGrew s t ∧
         NoExitAnswer s t ∧
         (s.write { accountedEntry o .presentation none with door := some (doorByte d) }).journal <+: t.journal ∧
         (∀ reason, modeRefusal (t.room r).mode = some reason →
           Gone t c ∧ OthersStay s t c ∧ .decision (doorByte d) c (.refuse reason) ∈ (t.port p).queue) ∧
         ∀ u, s.personLaw → s.permitLaw →
           u = musterEmptied
             (({ without (portTaken s p []) o with
                 permits := chargedTo s o.permit ((o.evacTime.getD 0 - o.chargeStart + 59) / 60) } : State).write
               { accountedEntry o .presentation none with door := some (doorByte d) }) o.room →
           t = (match modeRefusal (u.room r).mode with
             | some reason => presentationRefused u p r d c reason none
             | none => presentationDecided u p r d c)) ∧
     ((∀ o, s.record? c = some o → o.state ≠ .unaccounted) →
       (∀ reason, modeRefusal (s.room r).mode = some reason →
         exec (.presentIn p (frameOf 1 (doorByte d) payload extra)) s =
           .next ((portTaken s p [.decision (doorByte d) c (.refuse reason)]).write
             (refuseEntry (some r) (doorByte d) c reason none))) ∧
       ((s.room r).mode = .inService →
         (s.pairingDoor c = some d →
           exec (.presentIn p (frameOf 1 (doorByte d) payload extra)) s =
             .next ((portTaken s p [.decision (doorByte d) c (.refuse .duplicate)]).write
               (refuseEntry (some r) (doorByte d) c .duplicate none))) ∧
         (∀ e q u, s.pairingDoor c = some e → e ≠ d → s.pairing e = some q → s.record? c = none →
           u = slotCancelled (portTaken s p []) e q →
           (s.personLaw → s.permitLaw →
             exec (.presentIn p (frameOf 1 (doorByte d) payload extra)) s = .next (presentationDecided u p r d c)) ∧
           ∀ reason n, laterRefusal u r c = some (reason, n) →
             exec (.presentIn p (frameOf 1 (doorByte d) payload extra)) s =
               .next (presentationRefused (slotAfterRefusal u r d reason) p r d c reason n)) ∧
         (s.pairingDoor c = none → s.record? c = none → ∀ reason n, laterRefusal s r c = some (reason, n) →
           exec (.presentIn p (frameOf 1 (doorByte d) payload extra)) s =
             .next (presentationRefused (slotAfterRefusal (portTaken s p []) r d reason) p r d c reason n)) ∧
         (s.pairingDoor c = none → ∀ o, s.record? c = some o →
           ((∀ m ∈ s.permits, m.defn.cred ≠ c) →
             exec (.presentIn p (frameOf 1 (doorByte d) payload extra)) s =
               .next ((portTaken s p [.decision (doorByte d) c (.refuse .unknownCredential)]).write
                 (refuseEntry (some r) (doorByte d) c .unknownCredential none))) ∧
           ((∃ m ∈ s.permits, m.defn.cred = c) → o.room ≠ r →
             exec (.presentIn p (frameOf 1 (doorByte d) payload extra)) s =
               .next ((portTaken s p [.decision (doorByte d) c (.refuse .passback)]).write
                 (refuseEntry (some r) (doorByte d) c .passback none))) ∧
           ((∃ m ∈ s.permits, m.defn.cred = c) → o.room = r →
             ∃ t, exec (.presentIn p (frameOf 1 (doorByte d) payload extra)) s = .next t ∧
               t.permits = chargedTo s o.permit ((s.now - o.chargeStart + 59) / 60) ∧
               ((s.roster.filter fun x => x.cred != c).map person) <+: t.roster.map person ∧ QueuesGrew s t ∧
               NoExitAnswer s t ∧
               (s.write { kind := .exit, room := some r, door := some (doorByte d), cred := some c,
                          permit := some o.permit,
                          detail := .leave .reentry ((s.now - o.chargeStart + 59) / 60) }).journal <+: t.journal ∧
               (s.personLaw → s.permitLaw →
                 t = presentationDecided
                   (afterRemoval
                     (({ without (portTaken s p []) o with
                         permits := chargedTo s o.permit ((s.now - o.chargeStart + 59) / 60) } : State).write
                       { kind := .exit, room := some r, door := some (doorByte d), cred := some c, permit := some o.permit,
                         detail := .leave .reentry ((s.now - o.chargeStart + 59) / 60) }) o) p r d c))))))

/-- The permit selection over the permits of the credential that name the room (R68, R72): where one or more are admissible
it chooses one with the largest allowance and of those the one with the lowest number; where none is, it refuses with the
reason of the permit that got furthest through the checks, the lowest number among equals; where there is no permit to
test, NOT_PERMITTED with no permit number. -/
def Obligations.SelectionTakesLargestAllowance : Prop :=
  ∀ (s : State) (r : RoomId) (c : Credential),
    (∀ (m : Permit) (a : Nat), s.selectPermit r c = .chosen m a →
      m ∈ s.permits ∧ m.defn.cred = c ∧ namesRoom m.defn r = true ∧
      checkPermit s.clock (s.room r).settings.maxStay m = .admissible a ∧
      ∀ q ∈ s.permits, q.defn.cred = c → namesRoom q.defn r = true → ∀ b : Nat,
        checkPermit s.clock (s.room r).settings.maxStay q = .admissible b →
        b < a ∨ (b = a ∧ m.defn.number.toNat ≤ q.defn.number.toNat)) ∧
    ((∃ q ∈ s.permits, q.defn.cred = c ∧ namesRoom q.defn r = true ∧
        ∃ b : Nat, checkPermit s.clock (s.room r).settings.maxStay q = .admissible b) →
      ∃ m a, s.selectPermit r c = .chosen m a) ∧
    ((∀ q ∈ s.permits, q.defn.cred = c → namesRoom q.defn r = false) →
      s.selectPermit r c = .refused .notPermitted none) ∧
    (∀ (reason : Reason) (n : Option PermitNo), s.selectPermit r c = .refused reason n →
      (∃ q ∈ s.permits, q.defn.cred = c ∧ namesRoom q.defn r = true) →
      ∃ m ∈ s.permits, m.defn.cred = c ∧ namesRoom m.defn r = true ∧ n = some m.defn.number ∧
        ∃ i : Nat, checkPermit s.clock (s.room r).settings.maxStay m = .fails i reason ∧
          ∀ q ∈ s.permits, q.defn.cred = c → namesRoom q.defn r = true →
            ∃ j w, checkPermit s.clock (s.room r).settings.maxStay q = .fails j w ∧
              (j < i ∨ (j = i ∧ m.defn.number.toNat ≤ q.defn.number.toNat)))

/-- An admissible allowance is a whole number of minutes, 300 s or more and at most 60 times the maximum stay, and ends by
the window end less the margin, by the end of the daily hours less the margin, and within what is left of the budget, save
where an ESCORT's window and hours are passed over (R69, R70, R71). -/
def Obligations.AllowanceWithinLimits : Prop :=
  ∀ (k : Clock) (maxStay : Nat) (m : Permit) (a : Nat), checkPermit k maxStay m = .admissible a →
    m.state = .active ∧ a % 60 = 0 ∧ 300 ≤ a ∧ a ≤ 60 * maxStay ∧
    (m.defn.kind = .contractor → k.status = .set) ∧
    (passesUntimed m.defn k.status = false →
      a + k.value + permitMargin m.defn k.elapsed ≤ m.defn.windowEnd ∧
      (∀ f t : Nat, m.defn.hours = some (f, t) → a + k.value % 86400 + permitMargin m.defn k.elapsed ≤ t) ∧
      (∀ b : Nat, m.defn.budget = some b → a + 60 * m.used ≤ 60 * b))

/-- A presenter with no need at a door with an empty slot is granted: the record is created youngest of its room (R77); an
escort adopts the room's uncovered contractors, oldest first, up to its cover limit, a contractor that needs an escort is
linked to the oldest with spare cover, and no other cover changes (R79, R80); ARRIVE and STAY are armed (R78); GRANT is
answered and journaled (R59); the one earlier record of the room loses its CHECK entry and, with LONE_RECOVERED, its lone
alarm (R130, R133). Nothing else changes. -/
def Obligations.PresentationGranted : Prop :=
  ∀ (s : State) (p : PortId) (r : RoomId) (d : DoorId) (payload extra : List Byte) (m : Permit) (a : Nat),
    s.personLaw → s.permitLaw →
    payload.length = 5 → Admissible s p r d (payloadCredential payload) m a → s.pairing d = none →
    needs s r m = { escort := false, partner := false } →
    exec (.presentIn p (frameOf 1 (doorByte d) payload extra)) s =
      .next (grantedAlone (portTaken s p [grantItem d (payloadCredential payload) a]) r d (payloadCredential payload) m a)

/-- A presenter with a need at a door with an empty slot is answered PENDING; the slot is filled and its PAIR entry armed
30 s on, and nothing else changes (R76, R82). -/
def Obligations.PresentationPending : Prop :=
  ∀ (s : State) (p : PortId) (r : RoomId) (d : DoorId) (payload extra : List Byte) (m : Permit) (a : Nat),
    payload.length = 5 → Admissible s p r d (payloadCredential payload) m a → s.pairing d = none →
    needs s r m ≠ { escort := false, partner := false } →
    exec (.presentIn p (frameOf 1 (doorByte d) payload extra)) s =
      .next (((portTaken s p [.decision (doorByte d) (payloadCredential payload) (.pending (needs s r m))]).setPairing d
        (some { cred := payloadCredential payload, need := needs s r m, time := s.now })).arm (.pair d)
          (min (s.now + 30) 4294967295))

/-- A second presenter at a door with a waiting first presenter, which is decided again now (R84, R85, R86). Where it fails,
its slot ends with its refusal and the second is decided as at an empty slot: granted with no need, else PENDING in the
slot. Where the joint test fails, the second is refused with the first failed condition and the slot stays. Where both pass,
both are granted, the first presenter's record before the second's: cover is made as R86 gives it, each record's ARRIVE and
STAY are armed, both GRANTs are answered and journaled in this order, the slot and its PAIR entry are gone, and an earlier
record alone in the room has company (R130, R133). Nothing else changes. The permit number and the detail of a REFUSE record
are as log entry 15 reads R59 and R81. Of two escorts the first presenter adopts first, which is the model's choice (log
entry 54). -/
def Obligations.PairGranted : Prop :=
  ∀ (s : State) (p : PortId) (r : RoomId) (d : DoorId) (payload extra : List Byte) (m : Permit) (a : Nat)
    (q : Pairing) (c : Credential),
    s.personLaw → s.permitLaw → payload.length = 5 → c = payloadCredential payload → Admissible s p r d c m a →
    s.pairing d = some q → q.cred ≠ c →
    (∀ reason n, s.decidePerson r q.cred = .refused reason n →
      (needs s r m = { escort := false, partner := false } →
        exec (.presentIn p (frameOf 1 (doorByte d) payload extra)) s =
          .next (grantedAlone
            ((slotEmptied (portTaken s p [.decision (doorByte d) q.cred (.refuse reason), grantItem d c a]) d).write
              (pairRefusal s d q reason n)) r d c m a)) ∧
      (needs s r m ≠ { escort := false, partner := false } →
        exec (.presentIn p (frameOf 1 (doorByte d) payload extra)) s =
          .next ((((portTaken s p [.decision (doorByte d) q.cred (.refuse reason),
              .decision (doorByte d) c (.pending (needs s r m))]).setPairing d
            (some { cred := c, need := needs s r m, time := s.now })).arm (.pair d) (min (s.now + 30) 4294967295)).write
              (pairRefusal s d q reason n)))) ∧
    (∀ m1 a1, s.decidePerson r q.cred = .chosen m1 a1 →
      (∀ reason, jointRefusal s r m1 m = some reason →
        exec (.presentIn p (frameOf 1 (doorByte d) payload extra)) s =
          .next ((portTaken s p [.decision (doorByte d) c (.refuse reason)]).write
            (refuseEntry (some r) (doorByte d) c reason none))) ∧
      (jointRefusal s r m1 m = none →
        exec (.presentIn p (frameOf 1 (doorByte d) payload extra)) s =
          .next (grantedTogether (slotEmptied (portTaken s p [grantItem d q.cred a1, grantItem d c a]) d) r d q.cred m1
            a1 c m a)))

/-- An OUT by an ARRIVING or INSIDE record of the door's room ends its stay at now: the record and its entries go, its
permit is charged, EXITED is answered with the minutes charged, EXIT is journaled, EVAC in an EVACUATING room (R97, R100,
R102, R154), and the removal effects follow: escort loss for each contractor it covered, partner loss and a CHECK entry for
a record left alone, the uncovered marks alone in an EVACUATING room (R101, R121 to R124, R127, R129). An OUT by an
UNACCOUNTED record of the door's room accounts it with the detail INSIDE, charged to now and answered EXITED, and a MUSTER
room left empty takes its prior mode (R157, R156). Nothing else changes. That the EXIT_RESULT stands in its queue before the
notices of the removal effects, and before those of MUSTER_CLEARED, is log entry 27's reading. A curtailed record held OVER
or ALARM is kept as log entry 59 reads R108, and one held WITHIN or DUE whose allowance end has come takes OVER or ALARM by
the model's choice (log entry 60). -/
def Obligations.ExitEndsStay : Prop :=
  ∀ (s : State) (p : PortId) (r : RoomId) (d : DoorId) (payload extra : List Byte) (o : Occupant) (k : Nat),
    s.personLaw → payload.length = 5 → CanTake s p 1 → s.door d = some { room := r, port := p } →
    s.record? (payloadCredential payload) = some o → o.room = r → k = (s.now - o.chargeStart + 59) / 60 →
    (o.state ≠ .unaccounted →
      exec (.presentOut p (frameOf 2 (doorByte d) payload extra)) s =
        .next (afterRemoval
          (({ without (portTaken s p [.exitResult (doorByte d) o.cred .exited k]) o with
              permits := chargedTo s o.permit k } : State).write
            { kind := .exit, room := some r, door := some (doorByte d), cred := some o.cred, permit := some o.permit,
              detail := .leave (if (s.room r).mode = .evacuating then .evac else .out) k }) o)) ∧
    (o.state = .unaccounted →
      exec (.presentOut p (frameOf 2 (doorByte d) payload extra)) s =
        .next (musterEmptied
          (({ without (portTaken s p [.exitResult (doorByte d) o.cred .exited k]) o with
              permits := chargedTo s o.permit k } : State).write
            { kind := .accounted, room := some r, door := some (doorByte d), cred := some o.cred,
              permit := some o.permit, detail := .account .inside none k }) r))

/-- An OUT by a credential with no record in the door's room is answered EXIT_UNKNOWN and journaled with the room: a record
in another room is kept as it was (R98). A pending pairing the credential holds at any door ends first, with REFUSE
PAIR_CANCELLED in that door's port and in the journal (R88, R96). At a door not mapped to the port the answer is UNKNOWN_DOOR
and the record has no room (R164). Nothing else changes. The model's choices: the door above 31 is the byte named (log
entry 14), and the answer's minutes are 0 (log entry 58). -/
def Obligations.ExitUnknown : Prop :=
  ∀ (s : State) (p : PortId) (door : Byte) (payload extra : List Byte) (c : Credential),
    payload.length = 5 → c = payloadCredential payload → CanTake s p 1 →
    (∀ d r, s.mappedDoor p door = some (d, r) → (∀ o, s.record? c = some o → o.room ≠ r) →
      (s.pairingDoor c = none →
        exec (.presentOut p (frameOf 2 door payload extra)) s =
          .next ((portTaken s p [.exitResult door c .exitUnknown 0]).write
            { kind := .exitUnknown, room := some r, door := some door, cred := some c })) ∧
      (∀ e q, s.pairingDoor c = some e → s.pairing e = some q →
        exec (.presentOut p (frameOf 2 door payload extra)) s =
          .next (((slotCancelled (portTaken s p []) e q).place p (.exitResult door c .exitUnknown 0)).write
            { kind := .exitUnknown, room := some r, door := some door, cred := some c }))) ∧
    (s.mappedDoor p door = none →
      exec (.presentOut p (frameOf 2 door payload extra)) s =
        .next ((portTaken s p [.exitResult door c .unknownDoor 0]).write
          { kind := .exitUnknown, door := some door, cred := some c }))

/-- A CHECK_IN by a record of the door's room with a CHECK entry is accepted: the entry is re-armed at now + 60·C, a lone
alarm is cleared with LONE_RECOVERED in the journal and at every door of the room, and then ACCEPTED with the new due time
is placed in the port's queue, and nothing else in any queue (R132). Any other CHECK_IN at a door of the port is answered
NOT_EXPECTED, a pending pairing of the credential having ended first with REFUSE PAIR_CANCELLED (R88, R132); one at a door
not mapped to the port is answered UNKNOWN_DOOR (R164). Neither has another effect. The door of an answer above 31 is the
byte named, which is the model's choice (log entry 14). -/
def Obligations.CheckInAccepted : Prop :=
  ∀ (s : State) (p : PortId) (payload extra : List Byte) (c : Credential),
    payload.length = 5 → c = payloadCredential payload → CanTake s p 1 →
    (∀ (r : RoomId) (d : DoorId) (o : Occupant), s.door d = some { room := r, port := p } →
      s.record? c = some o → o.room = r → s.pairingDoor c = none → s.hasCheck c = true →
      ∃ t, exec (.checkIn p (frameOf 3 (doorByte d) payload extra)) s = .next t ∧
        t.deadlines = (s.arm (.check c)
          (min (s.now + 60 * (s.room r).settings.checkInterval) 4294967295)).deadlines ∧
        t.roster = (if o.loneAlarm then
          s.roster.map (fun x => if x.cred = c then { x with loneAlarm := false } else x)
          else s.roster) ∧
        .checkResult (doorByte d) c .accepted
          (min (s.now + 60 * (s.room r).settings.checkInterval) 4294967295) ∈ (t.port p).queue ∧
        QueuesGrew s t ∧ (t.port p).outcome = .taken ∧
        t.ports =
          ((if o.loneAlarm then
              (portTaken s p []).notify r { kind := .loneRecovered, cred := some c }
            else portTaken s p []).place p
            (.checkResult (doorByte d) c .accepted
              (min (s.now + 60 * (s.room r).settings.checkInterval) 4294967295))).ports ∧
        (if o.loneAlarm then
          Journaled s t { kind := .loneRecovered, room := some r, cred := some c, permit := some o.permit,
                          detail := .recovered false }
         else t.journal = s.journal ∧ t.gapPending = s.gapPending) ∧
        t = { s with roster := t.roster, deadlines := t.deadlines, ports := t.ports, journal := t.journal,
                     gapPending := t.gapPending }) ∧
    (∀ (door : Byte) (d : DoorId) (r : RoomId), s.mappedDoor p door = some (d, r) →
      ((∀ o, s.record? c = some o → o.room ≠ r) ∨ s.hasCheck c = false) →
      (s.pairingDoor c = none →
        exec (.checkIn p (frameOf 3 door payload extra)) s = .next (portTaken s p [.checkResult door c .notExpected 0])) ∧
      (∀ e q, s.pairingDoor c = some e → s.pairing e = some q →
        exec (.checkIn p (frameOf 3 door payload extra)) s =
          .next ((slotCancelled (portTaken s p []) e q).place p (.checkResult door c .notExpected 0)))) ∧
    (∀ door : Byte, s.mappedDoor p door = none →
      exec (.checkIn p (frameOf 3 door payload extra)) s = .next (portTaken s p [.checkResult door c .unknownDoor 0]))

/-- ARRIVAL PASSED, at the record's entry door: an ARRIVING record of an IN_SERVICE or CLOSED room becomes INSIDE, its
ARRIVE entry goes, and it takes a CHECK entry where it is alone and the room has a check interval (R92, R95); in an
EVACUATING or MUSTER room the arrival open mark, while it stands, is cleared (R155). A report that matches no record is
ignored (R92), and one at a door not mapped to the port is taken and ignored (R164). -/
def Obligations.ArrivalPassed : Prop :=
  (∀ (s : State) (p : PortId) (r : RoomId) (d : DoorId) (payload extra : List Byte),
    payload.length = 6 → byteAt payload 5 = 1 → CanTake s p 0 → s.door d = some { room := r, port := p } →
    (∀ o, s.record? (payloadCredential payload) = some o → o.entryDoor = d → (s.room o.room).mode.isOrdinary = true →
      o.state = .arriving →
      exec (.arrivalPassed p (frameOf 4 (doorByte d) payload extra)) s =
        .next { portTaken s p [] with
          roster := s.roster.map fun x => if x.cred = payloadCredential payload then { x with state := .inside } else x
          deadlines :=
            if s.presentCount o.room = 1 ∧ 0 < (s.room o.room).settings.checkInterval then
              ((s.cancel (.arrive o.cred)).arm (.check o.cred)
                (min (s.now + 60 * (s.room o.room).settings.checkInterval) 4294967295)).deadlines
            else (s.cancel (.arrive o.cred)).deadlines }) ∧
    (∀ o, s.record? (payloadCredential payload) = some o → o.entryDoor = d → (s.room o.room).mode.isOrdinary = false →
      o.arrivalOpen = true → s.now < min (o.entryTime + 30) 4294967295 →
      exec (.arrivalPassed p (frameOf 4 (doorByte d) payload extra)) s =
        .next { portTaken s p [] with
          roster := s.roster.map fun x =>
            if x.cred = payloadCredential payload then { x with arrivalOpen := false } else x }) ∧
    (s.arrivalMatch d (payloadCredential payload) = none →
      exec (.arrivalPassed p (frameOf 4 (doorByte d) payload extra)) s = .next (portTaken s p []))) ∧
  ∀ (s : State) (p : PortId) (door : Byte) (payload extra : List Byte),
    payload.length = 6 → byteAt payload 5 = 1 → CanTake s p 0 → s.mappedDoor p door = none →
    exec (.arrivalPassed p (frameOf 4 door payload extra)) s = .next (portTaken s p [])

/-- ARRIVAL NOT_PASSED, at the entry door of an ARRIVING record of an IN_SERVICE or CLOSED room, or of a frozen record
whose arrival open mark stands in an EVACUATING or MUSTER one, removes the record without charge: its entries go,
GRANT_UNUSED is journaled, the removal effects of its room follow, and a MUSTER room left empty takes its prior mode (R93,
R101, R155, R156). A report that matches no record is ignored (R92), and one at a door not mapped to the port is taken and
ignored (R164). Nothing else changes. A curtailed record held OVER or ALARM is kept as log entry 59 reads R108, and one
held WITHIN or DUE whose allowance end has come takes OVER or ALARM by the model's choice (log entry 60). -/
def Obligations.ArrivalNotPassed : Prop :=
  (∀ (s : State) (p : PortId) (r : RoomId) (d : DoorId) (payload extra : List Byte),
    s.personLaw → payload.length = 6 → byteAt payload 5 = 2 → CanTake s p 0 → s.door d = some { room := r, port := p } →
    (∀ o, s.record? (payloadCredential payload) = some o → o.entryDoor = d →
      (if (s.room o.room).mode.isOrdinary = true then o.state = .arriving
       else o.arrivalOpen = true ∧ s.now < min (o.entryTime + 30) 4294967295) →
      exec (.arrivalNotPassed p (frameOf 4 (doorByte d) payload extra)) s =
        .next (musterEmptied
          (afterRemoval ((without (portTaken s p []) o).write
            { kind := .grantUnused, room := some o.room, door := some (doorByte d), cred := some o.cred,
              permit := some o.permit }) o) o.room)) ∧
    (s.arrivalMatch d (payloadCredential payload) = none →
      exec (.arrivalNotPassed p (frameOf 4 (doorByte d) payload extra)) s = .next (portTaken s p []))) ∧
  ∀ (s : State) (p : PortId) (door : Byte) (payload extra : List Byte),
    payload.length = 6 → byteAt payload 5 = 2 → CanTake s p 0 → s.mappedDoor p door = none →
    exec (.arrivalNotPassed p (frameOf 4 door payload extra)) s = .next (portTaken s p [])

/-- DOOR_ALARM at a door mapped to the port (R36): FORCED raises the alarm of a room in use, HELD leaves it, RESTORED
clears it; each writes its record, and nothing else changes. A report at a door not mapped to the port is taken and
ignored (R164). -/
def Obligations.DoorAlarmReports : Prop :=
  (∀ (s : State) (p : PortId) (r : RoomId) (d : DoorId) (extra : List Byte),
    CanTake s p 0 → s.door d = some { room := r, port := p } →
    exec (.doorAlarmForced p (frameOf 5 (doorByte d) [1] extra)) s =
      .next (((portTaken s p []).setRoom r
          { s.room r with doorAlarm := (s.room r).settings.inUse || (s.room r).doorAlarm }).write
        { kind := .doorForced, room := some r, door := some (doorByte d), detail := .alarmBefore (s.room r).doorAlarm }) ∧
    exec (.doorAlarmHeld p (frameOf 5 (doorByte d) [2] extra)) s =
      .next ((portTaken s p []).write { kind := .doorHeld, room := some r, door := some (doorByte d) }) ∧
    exec (.doorAlarmRestored p (frameOf 5 (doorByte d) [3] extra)) s =
      .next (((portTaken s p []).setRoom r { s.room r with doorAlarm := false }).write
        { kind := .doorRestored, room := some r, door := some (doorByte d), detail := .source .door })) ∧
  ∀ (s : State) (p : PortId) (door : Byte) (extra : List Byte), CanTake s p 0 → s.mappedDoor p door = none →
    ∀ row ∈ [Instr.doorAlarmForced p (frameOf 5 door [1] extra), .doorAlarmHeld p (frameOf 5 door [2] extra),
      .doorAlarmRestored p (frameOf 5 door [3] extra)], exec row s = .next (portTaken s p [])

/-- A READ taken with all its bytes clocked delivers the head item's 16 bytes, or the empty-item marker, then 0, and
removes the head; one whose select rises before the item's last byte leaves the head in place (R166). The exchange is one
instant and its bytes are recorded, by the model's choice (log entries 28 and 39). -/
def Obligations.ReadDeliversHead : Prop :=
  ∀ (s : State) (p : PortId) (door : Byte) (extra : List Byte), CanTake s p 0 →
    exec (.read p (frameOf 6 door [] extra)) s =
      .next (s.setPort p
        { queue := if 16 ≤ extra.length then (s.port p).queue.tail else (s.port p).queue
          outcome := .taken
          lastStatus := s.statusByte p
          lastShift := (((s.port p).queue.head?.elim (List.replicate 16 0) Item.bytes) ++
            List.replicate (extra.length - 16) 0).take extra.length })

/-- PORT_RESET empties the port's queue and ends every pending pairing at its doors without an answer: the journal is as
it was but for one REFUSE PAIR_CANCELLED with the stored need for each, in ascending order of door (R167, R180); the other
ports, their slots, the roster and everything else but the journal stay as they are (R167). -/
def Obligations.PortResetEmptiesPort : Prop :=
  ∀ (s : State) (p : PortId) (door : Byte) (extra : List Byte), CanTake s p 0 →
    ∃ t, exec (.portReset p (frameOf 7 door [] extra)) s = .next t ∧
      t.ports = (s.setPort p
        { queue := [], outcome := .taken, lastStatus := s.statusByte p, lastShift := [] }).ports ∧
      t.owedDecisions p = 0 ∧
      (∀ d : DoorId, t.pairing d = if (s.door d).any (fun m => m.port == p) then none else s.pairing d) ∧
      t.deadlines = s.deadlines.filter (fun e => !(s.doorsOfPort p).any fun d =>
        (s.pairing d).isSome && e.owner == .pair d) ∧
      (s.journal.length + 32 ≤ 256 → ∀ d : DoorId, ∀ q : Pairing, s.pairing d = some q →
        ∀ m : DoorMapping, s.door d = some m → m.port = p →
        Wrote s t { kind := .refuse, room := some m.room, door := some (doorByte d), cred := some q.cred,
                    detail := .refusal .pairCancelled (some q.need) }) ∧
      (∀ u : State, u = (s.doorsOfPort p).foldl
          (fun x d => (s.pairing d).elim x fun q => x.write (pairRefusal s d q .pairCancelled none)) s →
        t.journal = u.journal ∧ t.gapPending = u.gapPending) ∧
      t = { s with deadlines := t.deadlines, pairings := t.pairings, ports := t.ports, journal := t.journal,
                   gapPending := t.gapPending }

/-! ## The estate link -/

/-- While UP, a good frame of a command goes into a free receive place and a good CREDIT frame uses none; the credit-return
count of either is added to the credits held, held at the gateway's declared count (R169, R171). A frame too long for the
effective maximum is discarded with the cause LENGTH, one with no free place with the cause OVERRUN, and one whose CRC does
not match or that a gap ends early with the cause CRC: each is counted, and owes a credit as R171 says (R174). The model's
choices: a CREDIT's return is added whatever its payload (log entry 23), an OVERRUN frame's is not (log entry 50), and a
frame arrives at one instant, one that a gap cuts being judged on the bytes that came (log entry 24). -/
def Obligations.FramesReceivedOrDiscarded : Prop :=
  (∀ (s : State) (w : WireFrame), s.part ≠ .starting → s.link.up = true → w.good = true →
     w.length.toNat ≤ s.link.effectiveMax →
     (isLinkKind w.kind = false → s.link.places.length < 8 →
       exec (.frameReceived w) s =
         .next { s with link := { s.link with
           places := s.link.places ++ [{ kind := w.kind, tag := w.tag, payload := w.payload }]
           credits := min (s.link.credits + w.creditReturn.toNat) s.link.declared } }) ∧
     (w.kind = 2 →
       exec (.credit w) s =
         .next { s with link := { s.link with
           credits := min (s.link.credits + w.creditReturn.toNat) s.link.declared } })) ∧
  (∀ (s : State) (w : WireFrame), s.part ≠ .starting → s.link.up = true →
     (s.link.effectiveMax < w.length.toNat →
       exec (.frameLengthDiscard w) s =
         .next { s with link := { s.link with
           discardsLength := s.link.discardsLength + 1
           owed := if isLinkKind w.kind then s.link.owed else s.link.owed + 1 } }) ∧
     (w.length.toNat ≤ s.link.effectiveMax → isLinkKind w.kind = false → 8 ≤ s.link.places.length →
       exec (.frameOverrunDiscard w) s =
         .next { s with link := { s.link with discardsOverrun := s.link.discardsOverrun + 1 } }) ∧
     (w.length.toNat ≤ s.link.effectiveMax → (isLinkKind w.kind = true ∨ s.link.places.length < 8) →
       (w.good = false → exec (.frameCrcDiscard w) s = .next (crcDiscarded s (!isLinkKind w.kind))) ∧
       ∀ rest : List Byte,
         exec (.interByteGapTimeout (w.length :: w.kind :: rest)) s = .next (crcDiscarded s (!isLinkKind w.kind))))

/-- An acceptable HELLO, while RUNNING, brings the link UP, or restarts it: the gateway's counts are recorded, the places
are free with nothing owed, the discard counts are 0, the part's own HELLO is sent and LINK_UP is journaled (R170). The
model's choices: at a restart an EVENT frame in flight is given up (log entry 29), and a discarded batch's items read 0
(log entry 22). -/
def Obligations.HelloBringsLinkUp : Prop :=
  ∀ (s : State) (w : WireFrame) (credits most : Byte), s.part = .running → w.good = true → w.kind = 1 →
    w.payload = [credits, most] → 1 ≤ credits.toNat → 120 ≤ most.toNat → 2 ≤ s.link.effectiveMax →
    exec (.hello w) s =
      .next (({ s with
        link :=
          { (if s.link.up then dropped s.link else s.link) with
            up := true, declared := credits.toNat, gatewayMax := most.toNat, effectiveMax := min 240 most.toNat
            credits := credits.toNat, places := [], owed := 0, discardsCrc := 0, discardsLength := 0
            discardsOverrun := 0, lastSent := frameBytes 1 0 0 [8, 240] }
        batch := if s.link.up then droppedBatch s.batch else s.batch } : State).write
          { kind := .linkUp, detail := if s.link.up then .restart else .none })

/-- The link's timers: no good frame for 10 s takes an UP link DOWN with LINK_DOWN; while DOWN and RUNNING a HELLO is sent
each second; while UP and RUNNING, with no frame being sent, 2 s without a frame send a CREDIT frame with what is owed
(R170, R171), each frame whole with its length and CRC-16 (R169). The model's choices: at DOWN nothing is owed (log entry
25), the gateway's declared items are kept (log entry 26), an EVENT frame in flight is given up (log entry 29) and a
discarded batch's items read 0 (log entry 22); one frame returns at most 255 (log entry 25). -/
def Obligations.LinkTimersAct : Prop :=
  ∀ s : State,
    (s.link.up = true →
      exec .linkTimeout s =
        .next (({ s with link := dropped s.link, batch := droppedBatch s.batch } : State).write { kind := .linkDown })) ∧
    (s.part = .running → s.link.up = false →
      exec .helloSendTick s = .next { s with link := sent s.link 1 0 [8, 240] }) ∧
    (s.part = .running → s.link.up = true → s.link.eventInFlight = false →
      exec .creditIdleTimeout s = .next { s with link := sent s.link 2 0 [] })

/-- With a credit, the part sends the oldest reply, else the oldest journal record in an EVENT frame, for one credit; with
nothing it may send, it returns what it owes in a CREDIT frame. The record leaves the journal when its frame has been sent
(R177, R171, R179). The model's choices: one frame returns at most 255 (log entry 25), the frame's end removes the record in
every state of the part (log entry 29), and what waits without a credit counts as no frame to send, so that the debt goes at
once (log entry 62). -/
def Obligations.SendingOrder : Prop :=
  ∀ s : State,
    (s.part = .running → s.link.up = true → s.link.eventInFlight = false →
      (∀ (r : Outgoing) (rest : List Outgoing), 0 < s.link.credits → s.link.replies = r :: rest →
        exec .sendFrame s =
          .next { s with
            link := (sent { s.link with replies := rest, credits := s.link.credits - 1 } r.kind r.tag r.payload) }) ∧
      (∀ (j : JournalRecord) (rest : List JournalRecord), 0 < s.link.credits → s.link.replies = [] →
        s.journal = j :: rest →
        exec .sendFrame s =
          .next { s with
            link := (sent { s.link with eventInFlight := true, credits := s.link.credits - 1 } 5 0 j.bytes) }) ∧
      (s.link.credits = 0 ∨ (s.link.replies = [] ∧ s.journal = []) →
        exec .sendFrame s = .next (if 0 < s.link.owed then { s with link := sent s.link 2 0 [] } else s))) ∧
    (s.link.eventInFlight = true →
      exec .eventFrameSent s =
        .next { s with journal := s.journal.tail, link := { s.link with eventInFlight := false } })

/-! ## Permits -/

/-- SUSPEND of an ACTIVE permit, RESUME of a SUSPENDED one, and REVOKE of an ACTIVE or SUSPENDED one that is not in use (R7
to R10): the new state stands at once, its write is queued, PERMITS_APPLIED is journaled and the reply is OK; no roster
record is touched. REMOVE of a permit that is not in use deletes its record at once and queues the retirement of its slot
(R13), which a free engine with nothing else to do begins at once (R183); a permit with no slot has nothing to retire, as
log entry 37 reads R182. -/
def Obligations.PermitCommandsTaken : Prop :=
  (∀ (s : State) (tag : Byte) (n : PermitNo) (m : Permit), s.queueLaw → s.permit? n = some m →
     (StoreCommandTaken s tag (.suspend n) → m.state = .active →
       ∃ t, exec (.suspend tag n) s = .next t ∧ PermitChanged s t tag m .suspended .suspend ∧
         Journaled s t (appliedEntry m .suspend) ∧ OnlyPermits s t) ∧
     (StoreCommandTaken s tag (.resume n) → m.state = .suspended →
       ∃ t, exec (.resume tag n) s = .next t ∧ PermitChanged s t tag m .active .resume ∧
         Journaled s t (appliedEntry m .resume) ∧ OnlyPermits s t) ∧
     (StoreCommandTaken s tag (.revoke n) → m.state ≠ .revoked → s.occupantOf? n = none →
       ∃ t, exec (.revoke tag n) s = .next t ∧ PermitChanged s t tag m .revoked .revoke ∧
         Journaled s t (appliedEntry m .revoke) ∧ OnlyPermits s t)) ∧
  (∀ (s : State) (tag : Byte) (n : PermitNo) (m : Permit), s.queueLaw → s.permit? n = some m →
     StoreCommandTaken s tag (.remove n) → s.occupantOf? n = none →
     ∃ t, exec (.remove tag n) s = .next t ∧
       t.permits.map shown = (s.permits.filter fun p => p.defn.number != n).map shown ∧
       t.link = answered s true tag .ok [] ∧
       Journaled s t (appliedEntry m .remove) ∧
       (s.store.engine ≠ none ∨ s.store.liveSlot (.permit n) ≠ none → retireOf (.permit n) ∈ t.store.queue) ∧
       (∀ a, s.store.liveSlot (.permit n) = some a → s.store.engine = none → s.snap.writer = [] →
         s.store.compaction = none → s.store.compactionWanted = false → s.store.queue = [] →
         t.store.engine = some (.retire a)) ∧
       OnlyPermits s t)

/-- REVOKE of a permit in use (R10, R11, R12): the permit is REVOKED and its record written first; an ARRIVING or INSIDE
occupant of an IN_SERVICE or CLOSED room is curtailed with the grace 600 s and journaled REVOKED, its stage and its STAY
entry being those of the new allowance end (R107, R108); one in an EVACUATING room, or UNACCOUNTED, keeps its allowance end;
an occupant's covered list is emptied, and its contractors go through escort loss in list order: reassigned, or marked
uncovered and curtailed (R121 to R124). Nothing else changes. A curtailed record held OVER or ALARM is kept as log entry 59
reads R108, and one held WITHIN or DUE whose allowance end has come takes OVER or ALARM by the model's choice (log entry
60). -/
def Obligations.RevokeActsOnOccupant : Prop :=
  ∀ (s : State) (tag : Byte) (n : PermitNo) (m : Permit) (o : Occupant), s.queueLaw → s.personLaw →
    s.permit? n = some m → StoreCommandTaken s tag (.revoke n) → m.state ≠ .revoked → s.occupantOf? n = some o →
    o.cred ∉ o.covers →
    ∃ t x, exec (.revoke tag n) s = .next t ∧ PermitChanged s t tag m .revoked .revoke ∧
      t.record? o.cred = some x ∧ x.covers = [] ∧
      x.allowanceEnd =
        (if o.state ≠ .unaccounted ∧ (s.room o.room).mode.isOrdinary = true ∧ o.stage ≠ .overstay ∧ o.stage ≠ .alarm then
          min o.allowanceEnd (min (s.now + 600) 4294967295)
        else o.allowanceEnd) ∧
      (s.journal.length + 2 ≤ 256 → o.state ≠ .unaccounted → (s.room o.room).mode.isOrdinary = true →
        Wrote s t { kind := .curtailed, room := some o.room, cred := some o.cred, permit := some o.permit,
                    detail := .curtail .revoked o.allowanceEnd x.allowanceEnd }) ∧
      t.roster.map person = s.roster.map person ∧ QueuesGrew s t ∧
      ∀ u, u = curtailedAs .revoked 600
          (({ s with permits := t.permits, link := t.link, store := t.store, snap := t.snap,
                     freeCount := t.freeCount } : State).write (appliedEntry m .revoke)) o.cred →
        t = o.covers.foldl (escortLost (some o.cred))
          { u with roster := u.roster.map fun x => if x.cred = o.cred then { x with covers := [] } else x }

/-- A refused store command changes nothing but its reply: UNKNOWN_PERMIT for a permit number no record carries, STATE for a
permit state the command does not fit, and for REMOVE of a permit in use (R7, R8, R9, R10, R13); and ROOM_SET's tests in
their order: an unknown room, a setting out of range, a room with records or a pending pairing or EVACUATING or MUSTER
(R29); and DOOR_SET's in theirs: a number out of range, a pending pairing at the door, an old or a new room EVACUATING or
MUSTER, a port with 8 other doors, a room with 4 other doors (R39). -/
def Obligations.StoreCommandsRefused : Prop :=
  (∀ (s : State) (tag : Byte) (n : PermitNo),
     (s.permit? n = none → ∀ c ∈ [(LinkCommand.suspend n, Instr.suspend tag n), (.resume n, .resume tag n),
         (.revoke n, .revoke tag n), (.remove n, .remove tag n)],
       StoreCommandTaken s tag c.1 → exec c.2 s = .next { s with link := answered s true tag .unknownPermit [] }) ∧
     (∀ m, s.permit? n = some m →
       (m.state ≠ .active → StoreCommandTaken s tag (.suspend n) →
         exec (.suspend tag n) s = .next { s with link := answered s true tag .state [] }) ∧
       (m.state ≠ .suspended → StoreCommandTaken s tag (.resume n) →
         exec (.resume tag n) s = .next { s with link := answered s true tag .state [] }) ∧
       (m.state = .revoked → StoreCommandTaken s tag (.revoke n) →
         exec (.revoke tag n) s = .next { s with link := answered s true tag .state [] }) ∧
       (s.occupantOf? n ≠ none → StoreCommandTaken s tag (.remove n) →
         exec (.remove tag n) s = .next { s with link := answered s true tag .state [] }))) ∧
  (∀ (s : State) (tag room : Byte) (st : RoomSettings), StoreCommandTaken s tag (.roomSet room st) →
     (16 ≤ room.toNat →
       exec (.roomSet tag room st) s = .next { s with link := answered s true tag .unknownRoom [] }) ∧
     (∀ r : RoomId, r.val = room.toNat →
       (settingsInRange st = false →
         exec (.roomSet tag room st) s = .next { s with link := answered s true tag .range [] }) ∧
       (settingsInRange st = true →
         (0 < s.presentCount r ∨ s.roomHasPairing r = true ∨ (s.room r).mode.isOrdinary = false) →
         exec (.roomSet tag room st) s = .next { s with link := answered s true tag .state [] }))) ∧
  (∀ (s : State) (tag door : Byte) (target : Option (Byte × Byte)) (reply : ReplyResult),
     StoreCommandTaken s tag (.doorSet door target) → doorSetRefusal s door target = some reply →
     exec (.doorSet tag door target) s = .next { s with link := answered s true tag reply [] })

/-! ## Rooms and doors -/

/-- A ROOM_SET of an empty IN_SERVICE or CLOSED room with settings in range (R30, R140, R152): the settings stand at once,
their write is queued, the door alarm and the channel follow them, a disabled channel keeping its most recent conversion
(R147); the mode is kept and no door told anything, but that a room brought into use while an evacuation is active joins it,
with EVAC_RELEASE at every door of it (R152). -/
def Obligations.RoomSettingsApplied : Prop :=
  ∀ (s : State) (tag room : Byte) (st : RoomSettings) (r : RoomId), s.queueLaw → r.val = room.toNat →
    StoreCommandTaken s tag (.roomSet room st) → settingsInRange st = true → s.presentCount r = 0 →
    s.roomHasPairing r = false → (s.room r).mode.isOrdinary = true →
    ∃ t, exec (.roomSet tag room st) s = .next t ∧
      t.rooms = (s.setRoom r
        { settings := st
          mode := if !(s.room r).settings.inUse && st.inUse && s.evac.active then .evacuating else (s.room r).mode
          prior := if !(s.room r).settings.inUse && st.inUse && s.evac.active then (s.room r).mode else (s.room r).prior
          doorAlarm := (s.room r).doorAlarm && st.inUse }).rooms ∧
      t.channels = (s.setChannel r (channelWith (s.channel r) (s.room r).settings st)).channels ∧
      writeOf (.room r st) ∈ t.store.queue ∧ t.link = answered s true tag .ok [] ∧
      Journaled s t { kind := .permitsApplied, room := some r, detail := .applied .roomSet } ∧
      t.permits.map shown = s.permits.map shown ∧ QueuesGrew s t ∧
      t.ports =
        (if !(s.room r).settings.inUse && st.inUse && s.evac.active then (s.notify r { kind := .evacRelease }).ports
         else s.ports) ∧
      t = { s with permits := t.permits, rooms := t.rooms, channels := t.channels, ports := t.ports, link := t.link,
                   store := t.store, snap := t.snap, freeCount := t.freeCount, journal := t.journal,
                   gapPending := t.gapPending }

/-- A DOOR_SET that passes its tests maps or unmaps the door at once and queues the write of its definition; every other
door stays as it was (R39, R40). -/
def Obligations.DoorMapped : Prop :=
  ∀ (s : State) (tag door : Byte) (d : DoorId), s.queueLaw → d.val = door.toNat → s.pairing d = none →
    (∀ m, s.door d = some m → (s.room m.room).mode.isOrdinary = true) →
    ∀ (target : Option (Byte × Byte)) (mapping : Option DoorMapping),
    StoreCommandTaken s tag (.doorSet door target) →
    ((target = none ∧ mapping = none) ∨
      ∃ (r : RoomId) (p : PortId), target = some (BitVec.ofNat 8 r.val, BitVec.ofNat 8 p.val) ∧
        mapping = some { room := r, port := p } ∧ (s.room r).mode.isOrdinary = true ∧
        ((s.doorsOfPort p).filter (· != d)).length < 8 ∧ ((s.doorsOfRoom r).filter (· != d)).length < 4) →
    ∃ t, exec (.doorSet tag door target) s = .next t ∧
      t.doors = (s.setDoor d mapping).doors ∧ writeOf (.door d mapping) ∈ t.store.queue ∧
      t.link = answered s true tag .ok [] ∧
      Journaled s t { kind := .permitsApplied, door := some (doorByte d),
                      detail := .doorSet (mapping.map fun m => (m.room, m.port)) } ∧
      t.permits.map shown = s.permits.map shown ∧
      t = { s with permits := t.permits, doors := t.doors, link := t.link, store := t.store, snap := t.snap,
                   freeCount := t.freeCount, journal := t.journal, gapPending := t.gapPending }

/-- OPEN and CLOSE of a room in use: the modes of R33 and R35, the ROOM_MODE record, OK; CLOSE of an IN_SERVICE room then
ends the pending pairings at its doors in ascending order, each with REFUSE CLOSED in its port and in the journal and its
PAIR entry removed, and no other entry goes (R32, R33, R34); no roster record changes. CLEAR_DOOR_ALARM, in any mode: a
raised alarm becomes clear with DOOR_RESTORED (ESTATE) and no door; a clear one stays clear and nothing is written; the
reply is OK either way, and no mode changes (R37). A ROOM_MODE command that names no room in use is refused UNKNOWN_ROOM
(R32). -/
def Obligations.RoomModeCommands : Prop :=
  (∀ (s : State) (tag room : Byte) (r : RoomId), r.val = room.toNat → (s.room r).settings.inUse = true →
     (CommandTaken s tag (.roomModeOpen room) →
       exec (.roomModeOpen tag room) s =
         .next (({ (s.setRoom r (modeTaken (s.room r) .inService)) with link := answered s false tag .ok [] } : State).write
           (roomModeEntry r .opened (s.room r) .inService))) ∧
     (CommandTaken s tag (.roomModeClose room) →
       ∃ t, exec (.roomModeClose tag room) s = .next t ∧
         t.rooms = (s.setRoom r (modeTaken (s.room r) .closed)).rooms ∧ t.link = answered s false tag .ok [] ∧
         (s.write (roomModeEntry r .closed (s.room r) .closed)).journal <+: t.journal ∧ QueuesGrew s t ∧
         ((s.room r).mode = .inService → PairingsEnded s t r .closed) ∧
         ((s.room r).mode ≠ .inService →
           t.pairings = s.pairings ∧ t.deadlines = s.deadlines ∧ t.ports = s.ports ∧
             Journaled s t (roomModeEntry r .closed (s.room r) .closed)) ∧
         (∀ u : State,
           u = ({ s with rooms := t.rooms, link := t.link } : State).write (roomModeEntry r .closed (s.room r) .closed) →
           t = if (s.room r).mode = .inService then
               (s.doorsOfRoom r).foldl (fun x d => (s.pairing d).elim x fun q => slotRefused x d q .closed none) u
             else u) ∧
         t = { s with rooms := t.rooms, deadlines := t.deadlines, pairings := t.pairings, ports := t.ports,
                      link := t.link, journal := t.journal, gapPending := t.gapPending })) ∧
  (∀ (s : State) (tag room : Byte),
     (∀ r : RoomId, r.val = room.toNat → (s.room r).settings.inUse = true →
       CommandTaken s tag (.clearDoorAlarm room) →
       exec (.clearDoorAlarm tag room) s =
         .next (if (s.room r).doorAlarm then
           ({ s.setRoom r { s.room r with doorAlarm := false } with link := answered s false tag .ok [] } : State).write
             { kind := .doorRestored, room := some r, detail := .source .estate }
           else { s with link := answered s false tag .ok [] })) ∧
     ((∀ r : RoomId, r.val = room.toNat → (s.room r).settings.inUse = false) →
       ∀ c ∈ [(LinkCommand.roomModeOpen room, Instr.roomModeOpen tag room), (.roomModeClose room, .roomModeClose tag room),
         (.roomModeCloseClear room, .roomModeCloseClear tag room), (.clearDoorAlarm room, .clearDoorAlarm tag room)],
       CommandTaken s tag c.1 → exec c.2 s = .next { s with link := answered s false tag .unknownRoom [] }))

/-- CLOSE_CLEAR of a room in use does what CLOSE does and, in an IN_SERVICE or CLOSED room, curtails every record of the
room with the grace 900 s in roster order, each with its CURTAILED record, the notice at every door of the room, and the
stage and the STAY entry of its new allowance end with a later stage's outputs (R107, R108); the records of other rooms stay
as they were (R35). A room that is not IN_SERVICE keeps its pairings (R34). Nothing else changes. A curtailed record held
OVER or ALARM is kept as log entry 59 reads R108, and one held WITHIN or DUE whose allowance end has come takes OVER or ALARM
by the model's choice (log entry 60). -/
def Obligations.RoomClosedAndCleared : Prop :=
  ∀ (s : State) (tag room : Byte) (r : RoomId), s.personLaw → s.standLaw → r.val = room.toNat →
    (s.room r).settings.inUse = true → CommandTaken s tag (.roomModeCloseClear room) →
    ∃ t, exec (.roomModeCloseClear tag room) s = .next t ∧
      t.rooms = (s.setRoom r (modeTaken (s.room r) .closed)).rooms ∧ t.link = answered s false tag .ok [] ∧
      (s.write (roomModeEntry r .closeClear (s.room r) .closed)).journal <+: t.journal ∧ QueuesGrew s t ∧
      ((s.room r).mode = .inService → PairingsEnded s t r .closed) ∧
      ((s.room r).mode ≠ .inService → t.pairings = s.pairings) ∧
      ((s.room r).mode.isOrdinary = true → ∀ o ∈ s.roster, o.room = r → ∀ ae,
        ae = (if o.stage = .overstay ∨ o.stage = .alarm then o.allowanceEnd
          else min o.allowanceEnd (min (s.now + 900) 4294967295)) →
        (s.journal.length + 1 + (s.doorsOfRoom r).length + 2 * s.presentCount r ≤ 256 →
          Wrote s t { kind := .curtailed, room := some r, cred := some o.cred, permit := some o.permit,
                      detail := .curtail .closure o.allowanceEnd ae }) ∧
        ∀ d ∈ s.doorsOfRoom r, ∀ m ∈ s.door d,
          5 + 2 * s.presentCount r * (s.doorsOfRoom r).length ≤ s.uncommitted m.port →
          .notice d r { kind := .curtailed, cred := some o.cred, time := ae, detail := .reason .closure } ∈
            (t.port m.port).queue) ∧
      t.roster.map (fun o => { o with stage := .within }) =
        s.roster.map (fun o =>
          { o with
            stage := .within
            allowanceEnd :=
              if (s.room r).mode.isOrdinary = true ∧ o.room = r ∧ o.stage ≠ .overstay ∧ o.stage ≠ .alarm then
                min o.allowanceEnd (min (s.now + 900) 4294967295)
              else o.allowanceEnd }) ∧
      (∀ o ∈ s.roster, o.room ≠ r → o ∈ t.roster) ∧
      ∀ u v,
        u = ({ s with rooms := t.rooms, link := t.link } : State).write
          (roomModeEntry r .closeClear (s.room r) .closed) →
        v = (if (s.room r).mode = .inService then
            (s.doorsOfRoom r).foldl (fun x d => (s.pairing d).elim x fun q => slotRefused x d q .closed none) u
          else u) →
        t = if (s.room r).mode.isOrdinary then
            ((s.inRoom r).map fun o => o.cred).foldl (curtailedAs .closure 900) v
          else v

/-! ## The clock's mark, the evacuation hold, the roster by command -/

/-- TIME (R50, R51): a mark of 0 is refused RANGE and changes nothing else; any other sets the clock value, the elapsed
count 0 and the status SET, journals CLOCK (SET) where the status was not SET, leaves a budget day present and takes what is
due, so that every entry left is due after the mark (R115, short of the last estate time). A mark from UNSET shifts every
held time by the mark less the old value: where no shifted entry is due, the records' times, the pairings' presentation
times and the entries' due times are the shifted ones, charge starts are moved to the day's start and DAY is armed (R51,
R52, R53). With the status SET, a budget day present and nothing due, nothing else changes. That the run of takings is whole
within the command is the model's choice (log entry 6), and that an entry due before the mark, which the second has not
taken yet, is shifted and taken in that run is log entry 53's reading. -/
def Obligations.TimeMarkTaken : Prop :=
  ∀ (s : State) (tag : Byte) (mark : Word32), s.queueLaw → CommandTaken s tag (.time mark) →
    (mark = 0 → exec (.time tag mark) s = .next { s with link := answered s false tag .range [] }) ∧
    (mark ≠ 0 →
      (∃ t, exec (.time tag mark) s = .next t ∧
        t.clock.value = mark.toNat ∧ t.clock.elapsed = 0 ∧ t.clock.status = .set ∧ t.clock.budgetDay.isSome = true ∧
        t.link = answered s false tag .ok [] ∧
        (s.clock.status ≠ .set → s.journal.length < 256 → ∃ j ∈ t.journal.drop s.journal.length,
          j.entry = { kind := .clock, detail := .clockSet s.now mark.toNat } ∧ j.time = mark.toNat) ∧
        t.roster.map (fun o => (o.cred, o.entryTime, o.evacTime)) =
          s.roster.map (fun o =>
            if s.clock.status = .unset then
              (o.cred, shiftTime s.now mark.toNat o.entryTime, o.evacTime.map (shiftTime s.now mark.toNat))
            else (o.cred, o.entryTime, o.evacTime)) ∧
        (∀ d : DoorId, s.clock.status = .unset → ∀ q, t.pairing d = some q →
          ∃ x ∈ s.pairing d, q = { x with time := shiftTime s.now mark.toNat x.time }) ∧
        (s.deadlineLaw → s.personLaw → s.standLaw → mark.toNat < 4294967295 →
          ∀ e ∈ t.deadlines, mark.toNat < e.due) ∧
        (s.clock.status = .unset → s.clock.budgetDay = none → s.permitLaw →
          (∀ e ∈ s.deadlines, e.owner ≠ .day ∧ mark.toNat < shiftTime s.now mark.toNat e.due) →
          t.roster = s.roster.map (fun o =>
            { o with
              entryTime := shiftTime s.now mark.toNat o.entryTime
              chargeStart := max (shiftTime s.now mark.toNat o.chargeStart) (86400 * (mark.toNat / 86400))
              allowanceEnd := shiftTime s.now mark.toNat o.allowanceEnd
              evacTime := o.evacTime.map (shiftTime s.now mark.toNat) }) ∧
          (∀ d : DoorId, t.pairing d =
            (s.pairing d).map fun x => { x with time := shiftTime s.now mark.toNat x.time }) ∧
          t.deadlines =
            (let shifted : List Deadline :=
              s.deadlines.map fun e => { e with due := shiftTime s.now mark.toNat e.due }
             if 86400 * (mark.toNat / 86400 + 1) ≤ 4294967295 then
               insertDeadline { due := 86400 * (mark.toNat / 86400 + 1), owner := .day } shifted
             else shifted) ∧
          t.ports = s.ports ∧ t.clock.budgetDay = some (mark.toNat / 86400) ∧ ∀ m ∈ t.permits, m.used = 0) ∧
        t = { s with clock := t.clock, permits := t.permits, roster := t.roster, deadlines := t.deadlines,
                     pairings := t.pairings, ports := t.ports, link := t.link, batch := t.batch, journal := t.journal,
                     gapPending := t.gapPending, store := t.store, snap := t.snap, freeCount := t.freeCount }) ∧
      (s.clock.status = .set → s.clock.budgetDay ≠ none → (∀ e ∈ s.deadlines, mark.toNat < e.due) →
        exec (.time tag mark) s =
          .next { s with
            clock := { s.clock with value := mark.toNat, elapsed := 0 }
            link := answered s false tag .ok [] }))

/-- EVACUATE (R149): START sets the hold and, where nothing called for an evacuation, begins one with the source ESTATE
(R150, R151), with the REFUSE EVAC of each pairing and EVAC_RELEASE at every door of the rooms in use; END clears the hold
and, where nothing else calls for it, ends the evacuation (R156), with EVAC_END at every door of the EVACUATING rooms;
otherwise the hold alone changes. -/
def Obligations.EvacuateCommands : Prop :=
  ∀ (s : State) (tag : Byte), s.personLaw → s.evacLaw →
    (CommandTaken s tag .evacuateStart →
      (s.evac.active = false →
        ∃ t, exec (.evacuateStart tag) s = .next t ∧ EvacuationBegun s t .estate ∧
          t.evac = { s.evac with hold := true, active := true } ∧ t.link = answered s false tag .ok [] ∧
          t = { s with evac := t.evac, rooms := t.rooms, roster := t.roster, deadlines := t.deadlines,
                       pairings := t.pairings, ports := t.ports, link := t.link, journal := t.journal,
                       gapPending := t.gapPending }) ∧
      (s.evac.active = true →
        exec (.evacuateStart tag) s =
          .next { s with evac := { s.evac with hold := true }, link := answered s false tag .ok [] })) ∧
    (CommandTaken s tag .evacuateEnd →
      (s.evac.hold = true → s.evac.held = .inactive → s.evac.carryOver = false →
        ∃ t, exec (.evacuateEnd tag) s = .next t ∧ EvacuationEnded s t .estate ∧
          t.evac = { s.evac with hold := false, active := false } ∧ t.link = answered s false tag .ok [] ∧
          t = { s with evac := t.evac, rooms := t.rooms, roster := t.roster, ports := t.ports, link := t.link,
                       journal := t.journal, gapPending := t.gapPending }) ∧
      (s.evac.hold = false ∨ s.evac.held = .active ∨ s.evac.carryOver = true →
        exec (.evacuateEnd tag) s =
          .next { s with evac := { s.evac with hold := false }, link := answered s false tag .ok [] }))

/-- An EXTEND that passes every test (R110) sets the allowance end to now + A, A being R111's allowance, the stage to WITHIN
or, where A is 300, DUE, re-arms STAY, journals EXTENDED and answers the new allowance end and A in minutes; the rest of the
record is as it was (R112). One that fails a test is refused with the first failed test's reply, and nothing else changes
(R110). A record whose permit is absent, which no run reaches and R110 does not test, is refused STATE by the model's choice
(log entry 46). -/
def Obligations.ExtendLengthensStay : Prop :=
  (∀ (s : State) (tag : Byte) (c : Credential) (reply : ReplyResult), CommandTaken s tag (.extend c) →
    extendRefusal s c = some reply →
    exec (.extend tag c) s = .next { s with link := answered s false tag reply [] }) ∧
  ∀ (s : State) (tag : Byte) (c : Credential) (o : Occupant) (m : Permit) (a : Nat),
    CommandTaken s tag (.extend c) → s.record? c = some o → o.state ≠ .unaccounted →
    (s.room o.room).mode.isOrdinary = true → s.permit? o.permit = some m → m.state = .active →
    namesRoom m.defn o.room = true → (m.defn.kind = .contractor → s.clock.status = .set) → o.uncovered = false →
    ((s.room o.room).settings.presence = .paired → s.presentCount o.room ≠ 1) →
    (passesUntimed m.defn s.clock.status = true ∨
      insideWindow m.defn (permitMargin m.defn s.clock.elapsed) s.now = true) →
    a = extensionOf s o m → 300 ≤ a → o.allowanceEnd < s.now + a →
    s.now + a ≤ 4294967295 ∧
    ∃ t, exec (.extend tag c) s = .next t ∧
      t.roster = s.roster.map (fun x =>
        if x.cred = c then { x with allowanceEnd := s.now + a, stage := if 300 < a then .within else .due } else x) ∧
      t.deadlines = (s.arm (.stay c) (if 300 < a then s.now + a - 300 else s.now + a)).deadlines ∧
      t.link = answered s false tag .ok (be 4 (s.now + a) ++ be 2 (a / 60)) ∧
      Journaled s t { kind := .extended, room := some o.room, cred := some c, permit := some o.permit,
                      detail := .extend o.allowanceEnd (s.now + a) } ∧
      t = { s with roster := t.roster, deadlines := t.deadlines, link := t.link, journal := t.journal,
                   gapPending := t.gapPending }

/-- RELEASE of an ARRIVING or INSIDE record ends its stay at now, charged, with RELEASED and no EXIT_RESULT, what is added to
the outbound queues being notices; the removal effects follow as at an OUT (R99, R101, R102). RELEASE and ACCOUNT of an
UNACCOUNTED record account it, charged to its evacuation time, and a MUSTER room left empty takes its prior mode (R99,
R157, R156); a record with no evacuation time, which no run reaches, counts as 0 (log entry 46). A credential with no
record is refused UNKNOWN_CREDENTIAL, and ACCOUNT of a record that is not UNACCOUNTED is refused STATE (R99, R157).
Nothing else changes. A curtailed record held OVER or ALARM is kept as log entry 59 reads R108, and one held WITHIN or DUE
whose allowance end has come takes OVER or ALARM by the model's choice (log entry 60). -/
def Obligations.StaysEndedByEstate : Prop :=
  ∀ (s : State) (tag : Byte) (c : Credential),
    (s.record? c = none →
      (CommandTaken s tag (.release c) →
        exec (.release tag c) s = .next { s with link := answered s false tag .unknownCredential [] }) ∧
      (CommandTaken s tag (.accountCredential c) →
        exec (.accountCredential tag c) s = .next { s with link := answered s false tag .unknownCredential [] })) ∧
    ∀ o, s.record? c = some o →
      (CommandTaken s tag (.accountCredential c) → o.state ≠ .unaccounted →
        exec (.accountCredential tag c) s = .next { s with link := answered s false tag .state [] }) ∧
      (CommandTaken s tag (.release c) → o.state ≠ .unaccounted → ∀ k, k = (s.now - o.chargeStart + 59) / 60 →
        ∃ t, exec (.release tag c) s = .next t ∧ OnlyNotices s t ∧ Gone t c ∧
          t = afterRemoval
            (({ without s o with permits := chargedTo s o.permit k, link := answered s false tag .ok [] } : State).write
              { kind := .released, room := some o.room, cred := some c, permit := some o.permit, detail := .charged k })
            o) ∧
      (o.state = .unaccounted →
        ∀ x ∈ [(LinkCommand.release c, Instr.release tag c, ([] : List Byte)),
          (.accountCredential c, .accountCredential tag c, [1])], CommandTaken s tag x.1 →
        ∃ t, exec x.2.1 s = .next t ∧ OnlyNotices s t ∧ Gone t c ∧
          t = musterEmptied
            (({ without s o with
                permits := chargedTo s o.permit ((o.evacTime.getD 0 - o.chargeStart + 59) / 60)
                link := answered s false tag .ok x.2.2 } : State).write (accountedEntry o .estate none)) o.room)

/-- ACCOUNT naming a room in MUSTER, and ACCOUNT_ROOM at the muster port, account every record of the room in roster order and
the room takes its prior mode, with MUSTER_CLEARED in the journal and at every door of it (R156); the reply and the kept
answer carry the number accounted (R157, R162). A room above 15 is refused UNKNOWN_ROOM, and kept as RANGE at the panel; a
room not in MUSTER is refused STATE at both; nothing else changes. The model's choices: a record with no evacuation time,
which no run reaches, is charged to 0 (log entry 46), and the row ACCOUNT_ROOM is the write of its selector (log entry 31). -/
def Obligations.RoomsAccounted : Prop :=
  (∀ (s : State) (tag room ordinal : Byte),
    (16 ≤ room.toNat →
      (CommandTaken s tag (.accountRoom room) →
        exec (.accountRoomEstate tag room) s = .next { s with link := answered s false tag .unknownRoom [] }) ∧
      (s.part = .running →
        exec (.accountRoom s.muster.address room ordinal) s =
          .next { s with muster := { s.muster with
            kind := 3, room := room, ordinal := ordinal, kept := some [3, 0, 0, 0, 0, 0, 0, 0] } })) ∧
    (∀ r : RoomId, r.val = room.toNat → (s.room r).mode ≠ .muster →
      (CommandTaken s tag (.accountRoom room) →
        exec (.accountRoomEstate tag room) s = .next { s with link := answered s false tag .state [] }) ∧
      (s.part = .running →
        exec (.accountRoom s.muster.address room ordinal) s =
          .next { s with muster := { s.muster with
            kind := 3, room := room, ordinal := ordinal, kept := some [2, 0, 0, 0, 0, 0, 0, 0] } }))) ∧
  ∀ (s : State) (r : RoomId), s.personLaw → (s.room r).mode = .muster → 0 < s.presentCount r →
    (∀ tag room : Byte, r.val = room.toNat → CommandTaken s tag (.accountRoom room) →
      ∃ t, exec (.accountRoomEstate tag room) s = .next t ∧ RoomAccounted s t r .estate ∧
        t.link = answered s false tag .ok [BitVec.ofNat 8 (s.presentCount r)] ∧
        t = { s with permits := t.permits, rooms := t.rooms, roster := t.roster, deadlines := t.deadlines,
                     ports := t.ports, link := t.link, journal := t.journal, gapPending := t.gapPending }) ∧
    (∀ room ordinal : Byte, r.val = room.toNat → s.part = .running →
      ∃ t, exec (.accountRoom s.muster.address room ordinal) s = .next t ∧ RoomAccounted s t r .panel ∧
        t.muster = { s.muster with
          kind := 3, room := room, ordinal := ordinal
          kept := some [0, BitVec.ofNat 8 (s.presentCount r), 0, 0, 0, 0, 0, 0] } ∧
        t = { s with permits := t.permits, rooms := t.rooms, roster := t.roster, deadlines := t.deadlines,
                     ports := t.ports, muster := t.muster, journal := t.journal, gapPending := t.gapPending })

/-- Every query is answered OK with the fields of R188 as they stand, names taking the codes of R187, or refused where its
room, door or permit is none, and a frame that spells no command is refused RANGE; nothing else changes (R24, R42, R57, R117,
R173). The model's choices: such a frame's group is its kind code's (log entry 18), filling bytes that are not 0 make a frame
RANGE (log entry 20), and the batch items of STATUS read 0 while IDLE (log entry 22), its counts are held at the most their
width carries (log entry 25), a roster query past the last record is answered with a record block of 0 (log entry 51), and a
PERMIT or BATCH_CLOSE frame of a wrong length is refused RANGE in every state of the batch machine (log entry 61). -/
def Obligations.QueriesChangeNothing : Prop :=
  ReplyCodes ∧ ∀ (s : State) (tag : Byte),
    (CommandTaken s tag .queryStatus →
      exec (.queryStatus tag) s =
        .next { s with link := answered s false tag .ok (statusReply s) }) ∧
    (∀ n : PermitNo, CommandTaken s tag (.queryPermit n) →
      exec (.queryPermit tag n) s =
        .next { s with link :=
          match s.permit? n with
          | none => answered s false tag .unknownPermit []
          | some m => answered s false tag .ok (permitReply s m) }) ∧
    (∀ room ordinal : Byte, CommandTaken s tag (.queryRosterRoom room ordinal) →
      exec (.queryRosterRoom tag room ordinal) s =
        .next { s with link :=
          match roomOfNat room.toNat with
          | none => answered s false tag .unknownRoom []
          | some r => answered s false tag .ok (rosterReply s r ordinal.toNat) }) ∧
    (∀ room : Byte, CommandTaken s tag (.describeRoom room) →
      exec (.queryDescribeRoom tag room) s =
        .next { s with link :=
          match roomOfNat room.toNat with
          | none => answered s false tag .unknownRoom []
          | some r => answered s false tag .ok (roomReply s r) }) ∧
    (∀ door : Byte, CommandTaken s tag (.describeDoor door) →
      exec (.queryDescribeDoor tag door) s =
        .next { s with link :=
          match doorOfNat door.toNat with
          | none => answered s false tag .range []
          | some d => answered s false tag .ok (doorReply s d) }) ∧
    (∀ (kind : Byte) (payload : List Byte), decodeCommand kind payload = none →
      s.mayTake (isStoreKind kind) = true →
      firstOf (isStoreKind kind) s.link.places = some { kind := kind, tag := tag, payload := payload } →
      exec (.unknownCommand tag kind payload) s =
        .next { s with link := answered s (isStoreKind kind) tag .range [] })

/-! ## Batches -/

/-- BATCH_OPEN, PERMIT and BATCH_ABORT (R174, R176): an open batch begins empty with the check's seed; a record within the
declared count is counted, run through the check and staged, its first range error kept, and one beyond it only sets the
overrun flag; an abort discards the batch. Out of place each is answered BUSY or STATE, and nothing else changes. A
BATCH_CLOSE that a check refuses is answered REJECTED with the kept error, else SHORT, OVERRUN or SUM in that order (R175);
one that passes these is answered REJECTED with the first failure of the first staged record that fails a table condition,
FULL, CREDENTIAL_LIMIT, REVOKED_NUMBER, CREDENTIAL_IN_USE or KIND_IN_USE, and that record's ordinal, each record tested with
those before it applied (R15). A rejected batch leaves the permit table as it was. A BATCH_CLOSE outside OPEN is answered
STATE (R175). The model's choices: RANGE before BUSY (log entry 21), and a batch's items at 0 once it is IDLE (log entry
22). -/
def Obligations.BatchStagedOrRejected : Prop :=
  (∀ (s : State) (tag : Byte),
     (∀ id count : Word16, CommandTaken s tag (.batchOpen id count) →
       exec (.batchOpen tag id count) s =
         .next (if count.toNat < 1 ∨ 256 < count.toNat then { s with link := answered s false tag .range [] }
           else if s.batch.phase ≠ .idle then { s with link := answered s false tag .busy [] }
           else
             { s with
               link := answered s false tag .ok []
               batch :=
                 { phase := .opened, id := id, declared := count.toNat, received := 0, staging := [], check := 0x2F5E
                   kept := none, overrun := false, closeTag := 0, applied := 0, remaining := 0, unqueued := [] } })) ∧
     (∀ payload : List Byte, CommandTaken s tag (.permit payload) →
       exec (.permit tag payload) s =
         .next (if s.batch.phase ≠ .opened then { s with link := answered s false tag .state [] }
           else
             { s with
               link := takenOnly s false
               batch :=
                 if s.batch.received < s.batch.declared then
                   { s.batch with
                     received := s.batch.received + 1
                     check := crc16 s.batch.check payload
                     kept :=
                       if s.batch.kept = none ∧ (decodePermit payload).filter PermitDef.wellFormed = none then
                         some (.range, s.batch.received + 1)
                       else s.batch.kept
                     staging := s.batch.staging ++ [(decodePermit payload).filter PermitDef.wellFormed] }
                 else { s.batch with overrun := true } })) ∧
     (CommandTaken s tag .batchAbort →
       exec (.batchAbort tag) s =
         .next (if s.batch.phase = .opened then { s with link := answered s false tag .ok [], batch := .idle }
           else { s with link := answered s false tag .state [] })) ∧
     ∀ check : Word16, CommandTaken s tag (.batchClose check) → s.batch.phase ≠ .opened →
       exec (.batchClose tag check) s = .next { s with link := answered s false tag .state [] }) ∧
  (∀ (s : State) (tag : Byte) (check : Word16) (before after : List PermitDef) (d : PermitDef) (error : BatchError),
     CommandTaken s tag (.batchClose check) → s.batch.phase = .opened → ReceivedWhole s check → s.permitLaw →
     s.batch.definitions = before ++ d :: after →
     (∀ pre x post, before = pre ++ x :: post → stagedRefusal s pre x = none) → stagedRefusal s before d = some error →
     exec (.batchClose tag check) s = .next (batchRejected s tag error (before.length + 1))) ∧
  (∀ (s : State) (tag : Byte) (check : Word16) (error : BatchError) (ordinal : Nat),
     CommandTaken s tag (.batchClose check) → s.batch.phase = .opened →
     (s.batch.kept = some (error, ordinal) ∨
       (s.batch.kept = none ∧
         ((s.batch.received < s.batch.declared ∧ error = .short ∧ ordinal = s.batch.received + 1) ∨
           (s.batch.declared ≤ s.batch.received ∧
             ((s.batch.overrun = true ∧ error = .overrun ∧ ordinal = s.batch.declared + 1) ∨
               (s.batch.overrun = false ∧ s.batch.check ≠ check ∧ error = .sum ∧ ordinal = 0)))))) →
     exec (.batchClose tag check) s = .next (batchRejected s tag error ordinal))

/-- A BATCH_CLOSE that passes every check (R175) and every table condition (R15) applies its records at once: a new number
gets a record ACTIVE with used-today 0, a number in the table its new definition, ACTIVE, with used-today limited by the new
budget; other numbers stay. The writes are queued in staging order and PERMITS_APPLIED (BATCH) is journaled; where no applied
permit is in use no occupant is touched (R16, R17, R175). Of a batch of one record whose permit is in use, the occupant then
goes through the revision of its rooms, of its escort requirement and of its cover limit, and nothing more (R18, R19, R20). A
curtailed record held OVER or ALARM is kept as log entry 59 reads R108, and one held WITHIN or DUE whose allowance end has
come takes OVER or ALARM by the model's choice (log entry 60). -/
def Obligations.BatchApplied : Prop :=
  ∀ (s : State) (tag : Byte) (check : Word16), s.queueLaw → s.permitLaw → CommandTaken s tag (.batchClose check) →
    s.batch.phase = .opened → ReceivedWhole s check →
    (∀ before d after, s.batch.definitions = before ++ d :: after → stagedRefusal s before d = none) →
    (s.batch.definitions.map fun d => d.number).Nodup →
    ∃ t, exec (.batchClose tag check) s = .next t ∧ t.batch.phase = .applying ∧
      (∀ d ∈ s.batch.definitions, ∃ m, t.permit? d.number = some m ∧
        shown m = { defn := d, state := .active, storePending := false,
                    used := (s.permit? d.number).elim 0 fun q => min q.used (budgetCap d) }) ∧
      (∀ n : PermitNo, (∀ d ∈ s.batch.definitions, d.number ≠ n) →
        (t.permit? n).map shown = (s.permit? n).map shown) ∧
      (s.batch.definitions.map fun d => ({ job := .version (.permit d .active), fromBatch := true } : WriteEntry)) <:+
        t.store.queue ++ t.batch.unqueued ∧
      t.link = takenOnly s false ∧
      (s.write { kind := .permitsApplied, detail := .applied .batch }).journal <+: t.journal ∧
      ((∀ d ∈ s.batch.definitions, s.occupantOf? d.number = none) →
        t.roster = s.roster ∧ t.deadlines = s.deadlines ∧ t.ports = s.ports) ∧
      (∀ d m o, s.batch.definitions = [d] → s.permit? d.number = some m → s.occupantOf? d.number = some o →
        s.personLaw →
        t = occupantRevised m.defn d o
          (({ s with permits := t.permits, link := t.link, batch := t.batch, store := t.store, snap := t.snap,
                     freeCount := t.freeCount } : State).write
            { kind := .permitsApplied, detail := .applied .batch })) ∧
      t = { s with permits := t.permits, roster := t.roster, deadlines := t.deadlines, ports := t.ports, link := t.link,
                   batch := t.batch, store := t.store, snap := t.snap, freeCount := t.freeCount, journal := t.journal,
                   gapPending := t.gapPending }

/-! ## The clock and the deadline queue -/

/-- CLOCK_SECOND advances the value and the elapsed count by one, each held at its limit (R45); with nothing due and no
change to LOST to make before the advance, nothing else changes: what the new second makes due is left to the events that
follow, which is the model's choice (log entry 5). CLOCK_LOST makes the status LOST at 3,686,400 with CLOCK (LOST), and
changes nothing otherwise (R48). -/
def Obligations.ClockAdvances : Prop :=
  ∀ s : State,
    (∃ t, exec .clockSecond s = .next t ∧ t.clock.value = min (s.clock.value + 1) 4294967295 ∧
      t.clock.elapsed = min (s.clock.elapsed + 1) 3686400) ∧
    ((∀ e ∈ s.deadlines, s.now < e.due) → (s.clock.status ≠ .set ∨ s.clock.elapsed < 3686400) →
      exec .clockSecond s =
        .next { s with clock := { s.clock with
          value := min (s.clock.value + 1) 4294967295, elapsed := min (s.clock.elapsed + 1) 3686400 } }) ∧
    exec .clockLost s =
      .next (if s.clock.status = .set ∧ 3686400 ≤ s.clock.elapsed then
        ({ s with clock := { s.clock with status := .lost } } : State).write
          { kind := .clock, detail := .clockStatus .lost }
        else s)

/-- A run of takings ends with every remaining entry due after now, short of the last estate time (R115). -/
def Obligations.DueEntriesAllTaken : Prop :=
  ∀ s : State, s.deadlineLaw → s.personLaw → s.standLaw → s.now < 4294967295 →
    s.takeDue.now = s.now ∧ ∀ e ∈ s.takeDue.deadlines, s.now < e.due

/-- A STAY entry taken: the record takes the stage of now where that is later, with its record and notices, and the slot is
re-armed at the next boundary of the stage held (R106, R105). -/
def Obligations.StayEntryTaken : Prop :=
  ∀ (s : State) (c : Credential) (due : EstateTime) (rest : List Deadline) (o : Occupant),
    HeadDue s (.stay c) due rest → s.record? c = some o →
    ∃ t st, exec (.stayEntry c) s = .next t ∧
      st = laterStage o.stage (stageAt s.now o.allowanceEnd (s.room o.room).settings.grace) ∧
      t.roster = (if st = o.stage then s.roster
        else s.roster.map fun x => if x.cred = c then { x with stage := st } else x) ∧
      t.deadlines = staySet rest c st o.allowanceEnd (s.room o.room).settings.grace ∧ QueuesGrew s t ∧
      t.ports = (match (if st = o.stage then none else stageNotice st) with
        | some k => (s.notify o.room { kind := k, cred := some c, time := o.allowanceEnd }).ports
        | none => s.ports) ∧
      (match (if st = o.stage then none else stageEntry o st) with
       | some e => Journaled s t e
       | none => t.journal = s.journal ∧ t.gapPending = s.gapPending) ∧
      t = { s with roster := t.roster, deadlines := t.deadlines, ports := t.ports, journal := t.journal,
                   gapPending := t.gapPending }

/-- An ARRIVE entry taken: the record becomes INSIDE, and its WATCH slot takes a CHECK entry where it is the only record of its
room and C is greater than 0, else it is left empty; no journal record or notice is written (R94, R95). A PAIR entry taken:
the slot is emptied, the first presenter is refused PAIR_TIMEOUT in its door's port, and the REFUSE record carries the
stored need (R87, R81). -/
def Obligations.ArriveAndPairEntriesTaken : Prop :=
  (∀ (s : State) (c : Credential) (due : EstateTime) (rest : List Deadline) (o : Occupant),
     HeadDue s (.arrive c) due rest → s.record? c = some o →
     exec (.arriveEntry c) s =
       .next { s with
         roster := s.roster.map fun x => if x.cred = c then { x with state := .inside } else x
         deadlines :=
           if s.presentCount o.room = 1 ∧ 0 < (s.room o.room).settings.checkInterval then
             insertDeadline
               { due := min (s.now + 60 * (s.room o.room).settings.checkInterval) 4294967295, owner := .check c }
               ((rest.filter fun e => e.owner != .arrive c).filter fun e => !e.owner.sameSlot (.check c))
           else rest.filter fun e => e.owner != .arrive c }) ∧
  (∀ (s : State) (d : DoorId) (due : EstateTime) (rest : List Deadline) (q : Pairing) (m : DoorMapping),
     HeadDue s (.pair d) due rest → s.pairing d = some q → s.door d = some m →
     exec (.pairEntry d) s =
       .next (({ s.setPairing d none with
         deadlines := rest.filter fun e => e.owner != .pair d
         ports := (s.setPort m.port { s.port m.port with
           queue := (s.port m.port).queue ++ [.decision (doorByte d) q.cred (.refuse .pairTimeout)] }).ports } : State).write
           { kind := .refuse, room := some m.room, door := some (doorByte d), cred := some q.cred,
             detail := .refusal .pairTimeout (some q.need) }))

/-- A CHECK entry taken: it is re-armed at now + 60·C; a clear lone alarm is set with LONE_ALARM carrying the missed due
time, a set one writes nothing; either way the notice LONE_ALARM goes to every door of the room (R131), as notices are
placed (R41, R165). -/
def Obligations.CheckEntryTaken : Prop :=
  ∀ (s : State) (c : Credential) (due : EstateTime) (rest : List Deadline) (o : Occupant),
    HeadDue s (.check c) due rest → s.record? c = some o →
    ∃ t, exec (.checkEntry c) s = .next t ∧
      t.deadlines = insertDeadline
        { due := min (s.now + 60 * (s.room o.room).settings.checkInterval) 4294967295, owner := .check c }
        (rest.filter fun e => !e.owner.sameSlot (.check c)) ∧
      t.roster = (if o.loneAlarm then s.roster
        else s.roster.map fun x => if x.cred = c then { x with loneAlarm := true } else x) ∧
      (if o.loneAlarm then t.journal = s.journal ∧ t.gapPending = s.gapPending
       else Journaled s t { kind := .loneAlarm, room := some o.room, cred := some c, permit := some o.permit,
                            detail := .instant due }) ∧
      (∀ d ∈ s.doorsOfRoom o.room, ∀ m ∈ s.door d, (s.doorsOfRoom o.room).length + 5 ≤ s.uncommitted m.port →
        .notice d o.room { kind := .loneAlarm, cred := some c, time := due } ∈ (t.port m.port).queue) ∧
      t.ports = (s.notify o.room { kind := .loneAlarm, cred := some c, time := due }).ports ∧ QueuesGrew s t ∧
      t = { s with roster := t.roster, deadlines := t.deadlines, ports := t.ports, journal := t.journal,
                   gapPending := t.gapPending }

/-- The DAY entry taken (R53, R22, R23, R103): the budget day is the day of now, every used-today is 0, charge starts before
the day's start move to it, and the DAY entry is armed at the next midnight, every other entry standing as it was. The purge
deletes the due permits, lowest numbers first, as many as the write queue has free places, each with its PURGED record and
its queued retirement, in this order; a permit with no slot has nothing to retire, as log entry 37 reads R182. -/
def Obligations.DayEntryTaken : Prop :=
  ∀ (s : State) (due : EstateTime) (rest : List Deadline), s.queueLaw → s.permitLaw → HeadDue s .day due rest →
    ∃ t, exec .dayEntry s = .next t ∧
      t.clock = { s.clock with budgetDay := some (s.now / 86400) } ∧
      (∀ m ∈ t.permits, m.used = 0) ∧
      (∀ m ∈ s.permits, purgeable s m = false → { shown m with used := 0 } ∈ t.permits.map shown) ∧
      (∃ gone : List Permit,
        gone.length = min (s.permits.filter (purgeable s)).length (32 - s.store.queue.length) ∧
        gone.Pairwise (fun x y => x.defn.number.toNat < y.defn.number.toNat) ∧
        (∀ m ∈ gone, m ∈ s.permits ∧ purgeable s m = true) ∧
        (∀ m ∈ s.permits, purgeable s m = true → m ∉ gone → ∀ x ∈ gone, x.defn.number.toNat < m.defn.number.toNat) ∧
        t.permits.map shown = (s.permits.filter fun m => decide (m ∉ gone)).map (fun m => { shown m with used := 0 }) ∧
        (t.store.queue ++ t.batch.unqueued) <:+
          (s.store.queue ++ gone.map (fun m => retireOf (.permit m.defn.number)) ++ s.batch.unqueued) ∧
        (s.store.engine ≠ none → t.store.queue = s.store.queue ++ gone.map fun m => retireOf (.permit m.defn.number)) ∧
        (∀ m ∈ gone, s.store.liveSlot (.permit m.defn.number) ≠ none → retireOf (.permit m.defn.number) ∈ t.store.queue) ∧
        t.journal = (gone.foldl (fun (u : State) m => u.write
          { kind := .purged, cred := some m.defn.cred, permit := some m.defn.number }) s).journal) ∧
      t.roster = s.roster.map (fun o => { o with chargeStart := max o.chargeStart (86400 * (s.now / 86400)) }) ∧
      t.deadlines =
        (let others := rest.filter fun e => e.owner != .day
         if 86400 * (s.now / 86400 + 1) ≤ 4294967295 then
           insertDeadline { due := 86400 * (s.now / 86400 + 1), owner := .day } others
         else others) ∧
      t = { s with clock := t.clock, permits := t.permits, roster := t.roster, deadlines := t.deadlines,
                   batch := t.batch, store := t.store, snap := t.snap, freeCount := t.freeCount, journal := t.journal,
                   gapPending := t.gapPending }

/-! ## The supervised inputs -/

/-- ISOLATION_SCAN while RUNNING converts every enabled channel once: a class is held at its third conversion in a row
(R137, R138, R139). Where no held class changes nothing else changes; where one does, only queues and the journal; and where
one room's alone does, its outputs are those of R142 to R145: ISOLATION_CHANGE where its setting selects it, and in an
occupied room ISOLATION_LOST (CHANGE, or START at the first change after start-up) or ISOLATION_RESTORED. -/
def Obligations.IsolationScanned : Prop :=
  ∀ (s : State) (values : Vector (BitVec 10) 16), s.part = .running →
    ∃ t, exec (.isolationScan values) s = .next t ∧
      (∀ r : RoomId, t.channel r = converted (s.channel r) (values.get r)) ∧ QueuesGrew s t ∧ s.journal <+: t.journal ∧
      ((∀ r : RoomId, (t.channel r).held = (s.channel r).held) → t = { s with channels := t.channels }) ∧
      (∀ (r : RoomId) (before after : HeldClass), (s.channel r).held = some before → (t.channel r).held = some after →
        before ≠ after → (∀ x : RoomId, x ≠ r → (t.channel x).held = (s.channel x).held) →
        t = classOutputs { s with channels := t.channels } r before after (s.channel r).fromStart) ∧
      t = { s with channels := t.channels, ports := t.ports, journal := t.journal, gapPending := t.gapPending }

/-- EVAC_SAMPLE while RUNNING (R146, R148): a sample of the held level clears the candidate, a first sample of the other level
becomes the candidate, and a second in a row becomes the held level; a line that goes ACTIVE with nothing else calling begins
an evacuation with the source LINE (R150, R151), and one that goes INACTIVE with nothing else calling ends it (R156), each
with its notices at the doors of its rooms. The second sample after the part became RUNNING clears a carry-over once it has
set the held level: the evacuation goes on where the line or the hold still calls for it, else it ends with the source
RESTORED (R159). The samples are counted anew after a recovery, which is the model's choice (log entry 32). -/
def Obligations.EvacLineSampled : Prop :=
  ∀ (s : State) (low : Bool) (x : EvacLevel) (e : Evac), s.personLaw → s.evacLaw → s.part = .running →
    x = (if low then .active else .inactive) → e = { s.evac with samples := min (s.evac.samples + 1) 2 } →
    (s.evac.samples ≠ 1 ∨ s.evac.carryOver = false →
      (x = s.evac.held → exec (.evacSample low) s = .next { s with evac := { e with candidate := none } }) ∧
      (x ≠ s.evac.held → s.evac.candidate ≠ some x →
        exec (.evacSample low) s = .next { s with evac := { e with candidate := some x } }) ∧
      (x ≠ s.evac.held → s.evac.candidate = some x →
        (s.evac.hold = true ∨ s.evac.carryOver = true →
          exec (.evacSample low) s = .next { s with evac := { e with held := x, candidate := none } }) ∧
        (s.evac.hold = false → s.evac.carryOver = false →
          ∃ t, exec (.evacSample low) s = .next t ∧
            (if low then EvacuationBegun s t .line else EvacuationEnded s t .line) ∧
            t.evac = { e with held := x, candidate := none, active := low } ∧
            t = { s with evac := t.evac, rooms := t.rooms, roster := t.roster, deadlines := t.deadlines,
                         pairings := t.pairings, ports := t.ports, journal := t.journal, gapPending := t.gapPending }))) ∧
    (s.evac.samples = 1 → s.evac.carryOver = true →
      ∀ f : Evac,
        f = (if x = s.evac.held then { e with candidate := none, carryOver := false }
          else if s.evac.candidate = some x then { e with held := x, candidate := none, carryOver := false }
          else { e with candidate := some x, carryOver := false }) →
        (f.held = .active ∨ f.hold = true → exec (.evacSample low) s = .next { s with evac := f }) ∧
        (f.held = .inactive → f.hold = false →
          ∃ t, exec (.evacSample low) s = .next t ∧ EvacuationEnded s t .restored ∧
            t.evac = { f with active := false } ∧
            t = { s with evac := t.evac, rooms := t.rooms, roster := t.roster, ports := t.ports, journal := t.journal,
                         gapPending := t.gapPending }))

/-! ## The muster port -/

/-- A write of three bytes or more at the port's address replaces the selector, where its kind is not ACCOUNT_ROOM; one of
fewer bytes, or one at another address, changes nothing (R160). A selector of the kind ACCOUNT_ROOM acts as the row
ACCOUNT_ROOM does; written while the part is STARTING or LOW_POWER it is kept with that status as its answer and nothing done
(R160, R162). A read, on whichever row it comes, returns the answer of the selector, then 0 for each further byte, and
changes nothing (R160): the summary of a room in use or UNUSED, the record at the ordinal among the UNACCOUNTED or among all
records of the room or END, the kept answer of ACCOUNT_ROOM, RANGE for a room above 15, BAD_SELECTOR for another kind,
STARTING or LOW_POWER in those states (R160, R161, R162). A read at another address changes nothing at all. The model's
choices: a selector of another kind leaves no kept answer, and each row reads what the selector asks (log entry 31); the
bytes returned are kept in the model's own record of the read (log entry 39); and, in states no run reaches, an ACCOUNT_ROOM
selector with no kept answer reads STATE, a record with no evacuation time is given 0 minutes and one with no permit counts as
CONTRACTOR (log entry 46). -/
def Obligations.MusterPortAnswers : Prop :=
  (∀ (s : State) (address : BitVec 7) (kind room ordinal : Byte) (extra : List Byte),
     (kind ≠ 3 →
       exec (.musterSelectorWrite s.muster.address (kind :: room :: ordinal :: extra)) s =
         .next { s with muster := { s.muster with kind := kind, room := room, ordinal := ordinal, kept := none } }) ∧
     exec (.musterSelectorWrite s.muster.address (3 :: room :: ordinal :: extra)) s =
       exec (.accountRoom s.muster.address room ordinal) s ∧
     (∀ n : Byte, (s.part = .starting ∧ n = 6) ∨ (s.part = .lowPower ∧ n = 7) →
       exec (.accountRoom s.muster.address room ordinal) s =
         .next { s with muster := { s.muster with
           kind := 3, room := room, ordinal := ordinal, kept := some [n, 0, 0, 0, 0, 0, 0, 0] } }) ∧
     (∀ bytes : List Byte, bytes.length < 3 → exec (.musterSelectorWrite s.muster.address bytes) s = .next s) ∧
     (address ≠ s.muster.address →
       exec (.accountRoom address room ordinal) s = .next s ∧
         ∀ bytes : List Byte, exec (.musterSelectorWrite address bytes) s = .next s)) ∧
  (∀ (s : State) (address : BitVec 7) (count : Nat),
     ∀ row ∈ [Instr.roomSummary address count, .unaccountedEntry address count, .presentEntry address count],
       exec row s =
         .next (if address = s.muster.address then
           { s with muster := { s.muster with lastRead := musterBytes (musterReply s) count } }
         else s))

/-! ## The store, the supply, reset and start-up -/

/-- FLASH_OPERATION_COMPLETE (R182, R183): a programmed slot is WRITTEN and the counter is one above its sequence number,
a retired slot is RETIRED, a copy's target is WRITTEN and its source kept, a marked page is DIRTY, an erased page is
ERASED and no longer DIRTY; every other slot is as it was; the snapshot area holds what was programmed or is erased
(R184). An entry whose last operation this was leaves the write queue and frees its place, its permit's store-pending flag
is cleared where it was the last for it (R7), and the last write of an applied batch makes BATCH_DONE APPLIED and the
machine IDLE (R175). The free engine then takes the next operation of the first requester that has one (R183): the
snapshot writer; compaction, wanted while a page is DIRTY or fewer than 64 slots are ERASED, with a copy of each WRITTEN
slot of its page, the page's mark and its erase, of a DIRTY page first, else of the page with the most RETIRED slots, the
lowest number among equals (R182); the head entry of the write queue; a requested erase of the snapshot area. While
STARTING it serves start-up alone, by the model's choice (log entry 8). Nothing else changes, and with no operation in
flight nothing at all. The model's choices: a snapshot's contents, its valid mark and its consumed mark are three
operations (log entry 11); the lowest snapshot page not erased is erased first, and the contents, both marks and the
request stay until the fourth page is erased (log entry 12); the order and targets of the copies are free values (log
entry 9); a batch's items read 0 while IDLE (log entry 22). Readings of the log: an operation in flight completes in
LOW_POWER too (log entry 13); the head entry retires the copy where its previous version has been copied (log entry 36);
an entry with no previous version completes with its program, a retirement with no slot at once, and a flag is cleared
where no write of the permit is queued or waits to be (log entry 37). -/
def Obligations.FlashOperationsComplete : Prop :=
  ∀ s : State,
    (s.store.engine = none → exec .flashOperationComplete s = .next s) ∧
    (∀ op : FlashOp, s.store.engine = some op →
      ∃ t, exec .flashOperationComplete s = .next t ∧ EngineOnly s t ∧ EngineWentOn (operationDone s op) t ∧
        EngineTook (operationDone s op) t ∧
        (∀ (a : Nat) (d : Defn) (seq : Nat), op = .program a d seq →
          slotAt t.store.slots a = some (.written d seq true) ∧ t.store.seq = seq + 1 ∧
            ∀ b, b ≠ a → slotAt t.store.slots b = slotAt s.store.slots b) ∧
        (∀ a : Nat, op = .retire a ∨ op = .retireStale a →
          slotAt t.store.slots a = some .retired ∧ ∀ b, b ≠ a → slotAt t.store.slots b = slotAt s.store.slots b) ∧
        (∀ page : Nat, op = .erase page → page ∉ t.store.dirty ∧
          ∀ b, slotAt t.store.slots b = if b / 32 = page then none else slotAt s.store.slots b))

/-- LOW_VOLTAGE_WARNING (R184, R137, R146): a RUNNING part becomes LOW_POWER, abandons a page erase in flight, discards
the inputs' candidates, and takes up the snapshot of the state as it stands where the snapshot area is erased, else
journals SNAPSHOT_SKIPPED and takes up none; the write queue with a batch's writes, the slots, the DIRTY pages and the
sequence counter stand, the page of an abandoned erase stays DIRTY, any other operation in flight goes on, and the engine
takes up the writer's next where it is free; a STARTING part becomes LOW_POWER alone. SUPPLY_RECOVERED: a part warned
while STARTING goes back to STARTING, where the engine goes on with start-up's work; one warned while RUNNING becomes
RUNNING again, with the consumed mark of a snapshot it has begun to program, and with nothing due and no change to LOST
owed changes nothing but what a free engine resumes, by the order of its requesters (R183), and the count of samples; an
operation still in flight goes on. The model's choices: that a snapshot begun is discarded and one not begun is dropped
(log entry 11), that every operation in flight but an erase goes on (log entry 13), that the samples are counted anew (log
entry 32), and that the snapshot gives a record without a permit, which no run reaches, the kind CONTRACTOR (log entry
46). -/
def Obligations.SupplyWarnedAndRecovered : Prop :=
  (∀ s : State,
     (s.slotLaw → s.part = .running →
       ∃ t, exec .lowVoltageWarning s = .next t ∧ t.part = .lowPower ∧ t.supply = .warning ∧ t.warnedRunning = true ∧
         (∀ r : RoomId, t.channel r = { s.channel r with candidate := none }) ∧
         t.evac = { s.evac with candidate := none } ∧
         (∀ page : Nat, t.store.engine ≠ some (.erase page)) ∧ (∀ k : Fin 4, t.store.engine ≠ some (.snapErase k)) ∧
         ((∀ k : Fin 4, s.snap.erased.get k = true) →
           snapshotOf s ∈ t.snapshots ∧ t.snap.begun = true ∧ t.journal = s.journal ∧ t.gapPending = s.gapPending) ∧
         ((∃ k : Fin 4, s.snap.erased.get k = false) →
           (∀ sn, sn ∈ t.snapshots ↔ sn ∈ s.snapshots) ∧ t.snap.begun = false ∧
             Journaled s t { kind := .snapshotSkipped }) ∧
         t.store = storeWarned s ∧
         (s.eraseLaw → ∀ page : Nat, s.store.engine = some (.erase page) → page ∈ t.store.dirty) ∧
         t.snap.writer = (if heldAtWarning s = none then (writerAtWarning s).tail else writerAtWarning s) ∧
         t.snap = { s.snap with writer := t.snap.writer, begun := t.snap.begun, erased := t.snap.erased } ∧
         t = { s with part := t.part, supply := t.supply, warnedRunning := t.warnedRunning, channels := t.channels,
                      evac := t.evac, store := t.store, snap := t.snap, journal := t.journal,
                      gapPending := t.gapPending }) ∧
     (s.part = .starting →
       exec .lowVoltageWarning s = .next { s with supply := .warning, part := .lowPower, warnedRunning := false })) ∧
  (∀ s : State, s.part = .lowPower →
     (s.warnedRunning = false →
       ∃ t, exec .supplyRecovered s = .next t ∧ EngineOnly { s with supply := .normal, part := .starting } t ∧
         t.store.slots = s.store.slots ∧ (StartUpSettled s → t = { s with supply := .normal, part := .starting })) ∧
     (s.warnedRunning = true → (∀ e ∈ s.deadlines, s.now < e.due) → LostNotOwed s →
       ∃ t, exec .supplyRecovered s = .next t ∧ t.store.slots = s.store.slots ∧ t.snap.begun = false ∧
         (s.snap.begun = true → (∀ op ∈ s.snap.writer, op.snapshot? = none) →
           t.snap.eraseRequested = true ∧ (.snapConsumed ∈ t.snap.writer ∨ t.store.engine = some .snapConsumed)) ∧
         EngineOnly { s with supply := .normal, part := .running, evac := { s.evac with samples := 0 } } t ∧
         ∀ u, u = ({ s with supply := .normal, part := .running, evac := { s.evac with samples := 0 }
                            snap := snapRecovered s.snap } : State) →
           (s.store.engine = none → EngineWentOn u t ∧ EngineTook u t) ∧ (s.store.engine ≠ none → t = u)))

/-- DEVICE_RESET (R185 and the values after reset of every chapter): the part is STARTING; the clock is kept, or at its
values after a backup loss; the roster, queues, pairings, link, batch, ports, inputs and muster port are at their values
after reset; the tables are those of the store's live versions; the journal holds START, and CLOCK (UNSET) after a backup
loss; every channel is at UNKNOWN, or absent where the room needs none, with no candidate, no conversion and its start
mark (R140, R147); DAY alone may be armed. Every WRITTEN slot outside DIRTY pages that is no live version is being retired
or still to be, and nothing has been restored yet. A retirement of the write queue in flight has not been made, so that a
permit whose removal or purge had not been retired is present again (R7, R26), and a slot program in flight leaves a slot
whose check does not match (R185). The model's choices: the muster address is 0x4C plus the straps (log entry 30), the
gateway's declared items are 0 (log entry 26), the IDLE batch machine's id, counts and kept error are 0 or none (log entry
22), and which steps start-up takes (log entry 8). -/
def Obligations.DeviceResetRestores : Prop :=
  ∀ (s : State) (cause : ResetCause) (lost : Bool),
    ∃ t, exec (.deviceReset cause lost) s = .next t ∧ t.part = .starting ∧ t.supply = .normal ∧
      t.clock = (if lost then { value := 0, elapsed := 0, status := .unset, budgetDay := none } else s.clock) ∧
      t.roster = [] ∧ (∀ d : DoorId, t.pairing d = none) ∧
      t.deadlines = (match t.clock.budgetDay with
        | none => []
        | some day =>
          if 86400 * (day + 1) ≤ 4294967295 then [{ due := 86400 * (day + 1), owner := .day }] else []) ∧
      (∀ p : PortId, (t.port p).queue = [] ∧ (t.port p).outcome = .starting) ∧
      t.link = State.reset.link ∧ t.batch = State.reset.batch ∧ t.evac = State.reset.evac ∧
      t.muster = { State.reset.muster with
        straps := s.muster.straps, address := BitVec.ofNat 7 (0x4C + s.muster.straps.toNat) } ∧
      t.journal.map (·.entry) =
        { kind := .start, detail := .cause cause } ::
          (if lost then [{ kind := .clock, detail := .clockStatus .unset }] else []) ∧
      t.gapPending = false ∧
      t.permits = t.store.rebuildPermits ∧ t.rooms = t.store.rebuildRooms ∧ t.doors = t.store.rebuildDoors ∧
      (∀ m ∈ t.permits, m.used = 0 ∧ m.storePending = false ∧
        ∃ x ∈ t.store.liveSlots, x.2.1 = .permit m.defn m.state) ∧
      (∀ r : RoomId, (t.room r).mode = .closed ∧ (t.room r).prior = .closed ∧ (t.room r).doorAlarm = false) ∧
      (∀ r : RoomId, (t.channel r).held =
        if (t.room r).settings.inUse && (t.room r).settings.isolationRequired then some .unknown else none) ∧
      (∀ r : RoomId, (t.channel r).candidate = none ∧ (t.channel r).lastValue = none ∧
        (t.channel r).fromStart = ((t.room r).settings.inUse && (t.room r).settings.isolationRequired)) ∧
      t.store.queue = [] ∧ s.store.seq ≤ t.store.seq ∧ t.pending = s.pending ∧
      (t.store.engine = none ∨ ∃ a, t.store.engine = some (.retireStale a)) ∧
      (∀ x ∈ t.store.cleanSlots, x.2 = .retired ∨ t.store.liveSlots.any (fun y => y.1 == x.1) = true ∨
        x.1 ∈ t.store.toRetire ∨ t.store.engine = some (.retireStale x.1)) ∧
      (∀ a, s.store.engine = some (.retire a) → t.store.slots = s.store.slots) ∧
      (∀ a d q, s.store.engine = some (.program a d q) →
        t.store.slots = putSlot a (.written d q false) s.store.slots) ∧
      t.restored = false ∧ t.snap.toConsume = false ∧ t.snap.writer = []

/-- STARTUP_RUNNING of a STARTING part (R186). With no valid snapshot it journals ROSTER_LOST; with one it restores: the
modes and door alarm of every room in use, the hold, used-today limited by each budget, and every record whose permit is
present with its credential and kind, whose room is in use and that is not among its room's youngest beyond the maximum
occupancy, none ARRIVING, its times rebased after a backup loss and its allowance limited (R55, R159), its cover repaired
(R135), the stage and the entries of an INSIDE record of an IN_SERVICE or CLOSED room set at now, with STAY_OVER or
STAY_ALARM journaled where that stage is later than the one held, and no other entry armed (R116, R181); the journal and
the queues take exactly ROOM_MODE (MUSTER_CLEARED) for each restored MUSTER room left empty (R159) and then the outputs of
those stages; the consumed mark is then to be programmed. Where nothing of start-up's flash work is left, the part becomes
RUNNING: the evacuation follows its three items, and where they call for one EVAC_START (RESTORED) comes first, every
other room in use is taken into it and the doors of each receive EVAC_RELEASE (R159, R150, R151); due entries are taken
(R49). That an UNACCOUNTED contractor of a room in a second evacuation is marked uncovered like any other is log entry
41's reading of R135, and that a backup loss stays in force until the part is RUNNING is log entry 33's. The order of
those outputs is log entries 34 and 56's. The model's choices: that the rooms are gone through in one ascending pass (log
entry 52), that it waits for the flash work, the engine making it, and goes on at the next STARTUP_RUNNING (log entry 8),
that the evacuation comes before the due entries (log entry 34), and that their run is whole within the command (log entry
6). -/
def Obligations.StartUpRestores : Prop :=
  (∀ s : State, s.part = .starting → s.restored = false →
     (s.snap.valid = false ∨ s.snap.consumed = true ∨ s.snap.content = none) →
     ∃ t, exec .startupRunning s = .next t ∧ t.restored = true ∧
       (s.store.engine = none → s.store.toRetire = [] → s.evac.called = false → (∀ e ∈ s.deadlines, s.now < e.due) →
         LostNotOwed s →
         t.part = .running ∧
           EngineOnly ((runningAgain { s with restored := true }).write { kind := .rosterLost }) t) ∧
       (s.store.engine ≠ none ∨ s.store.toRetire ≠ [] →
         EngineOnly (({ s with restored := true } : State).write { kind := .rosterLost }) t)) ∧
  (∀ s : State, s.part = .starting → s.restored = true →
     (¬ StartUpSettled s → ∃ t, exec .startupRunning s = .next t ∧ t.part = .starting ∧ EngineOnly s t) ∧
     (StartUpSettled s →
       ∃ t, exec .startupRunning s = .next t ∧ t.part = .running ∧ t.backupLost = false ∧
         t.evac = { s.evac with samples := 0, active := s.evac.called } ∧
         (s.evac.called = false → (∀ e ∈ s.deadlines, s.now < e.due) → LostNotOwed s →
           EngineOnly (runningAgain s) t) ∧
         (s.evac.called = true → s.personLaw → (∀ e ∈ s.deadlines, s.now < e.due) → LostNotOwed s →
           EngineOnly ((usedRooms s).foldl roomResumed
             ((({ runningAgain s with evac := t.evac } : State).write
               { kind := .evacStart, detail := .evacStart .restored s.roster.length }))) t) ∧
         (s.evac.called = true →
           (∀ r : RoomId, (s.room r).settings.inUse = true → (t.room r).mode = .evacuating) ∧
           (s.write { kind := .evacStart, detail := .evacStart .restored s.roster.length }).journal <+: t.journal) ∧
         (s.deadlineLaw → s.personLaw → s.standLaw → s.now < 4294967295 → ∀ e ∈ t.deadlines, s.now < e.due))) ∧
  (∀ (s : State) (sn : Snapshot), s.part = .starting → s.restored = false → s.snap.valid = true →
     s.snap.consumed = false → s.snap.content = some sn → (sn.records.map fun x => x.1.cred).Nodup →
     ∃ t, exec .startupRunning s = .next t ∧ t.part = .starting ∧ t.restored = true ∧
       (t.snap.toConsume = true ∨ t.store.engine = some .snapConsumed) ∧
       (∀ r : RoomId, t.room r = roomRestored s t sn r) ∧
       t.evac = { s.evac with
         hold := sn.hold
         carryOver := allRooms.any fun r => (s.room r).settings.inUse && (sn.rooms.get r).1 == .evacuating } ∧
       t.permits = s.permits.map (fun m =>
         { m with used :=
             match sn.used.find? fun u => u.1 == m.defn.number with
             | some u => min u.2 (budgetCap m.defn)
             | none => m.used }) ∧
       (t.roster.map fun o => o.cred).Sublist ((standing s sn).map fun x => x.1.cred) ∧
       (∀ (i : Nat) (x : Occupant × PermitKind), (standing s sn)[i]? = some x →
         ((((standing s sn).take i).filter fun y => y.1.room == x.1.room).length <
             (s.room x.1.room).settings.maxOccupancy ↔ ∃ o ∈ t.roster, o.cred = x.1.cred) ∧
         ∀ o ∈ t.roster, o.cred = x.1.cred →
           person o = person (restoredAs s (if s.backupLost then sn.clock else 0) x.1) ∧
           o.allowanceEnd = (restoredAs s (if s.backupLost then sn.clock else 0) x.1).allowanceEnd ∧
           o.loneAlarm = x.1.loneAlarm ∧ CoverRepaired s t x.1 o ∧
           o.stage = (if stageSet t o then
               stageAt s.now o.allowanceEnd (s.room o.room).settings.grace
             else x.1.stage) ∧
           (stageSet t o = true → s.journal.length + 16 + sn.records.length ≤ 256 → x.1.stage.rank < o.stage.rank →
             ∀ j ∈ stageEntry o o.stage, Wrote s t j)) ∧
       ((∀ e ∈ s.deadlines, e.owner = .day) →
         ∀ e, e ∈ t.deadlines ↔ e ∈ s.deadlines ∨ ∃ o ∈ t.roster, stageSet t o = true ∧ ArmedAtStart t o e) ∧
       (∀ r : RoomId, t.presentCount r ≤ (s.room r).settings.maxOccupancy) ∧
       s.journal <+: t.journal ∧ OnlyNotices s t ∧
       t.journal = (restoreOutputs s t sn).journal ∧ t.gapPending = (restoreOutputs s t sn).gapPending ∧
       t.ports = (restoreOutputs s t sn).ports ∧
       t = { s with restored := true, permits := t.permits, rooms := t.rooms, roster := t.roster,
                    deadlines := t.deadlines, evac := t.evac, ports := t.ports, journal := t.journal,
                    gapPending := t.gapPending, store := t.store, snap := t.snap })

end ObligationStatements
end

