-- ==== Sys2Proof/Laws/State.lean ====
section
/-! SUPPORT. What each record update of the state does to each field: one lemma per field per update, true by unfolding,
and the reads of a table after a write to it. No later proof unfolds a record update. -/

namespace Sys2Proof.Machine

variable (s : State)

/-! ### `State.cancel` -/

@[simp] theorem State.cancel_pending (o : Owner) : (s.cancel o).pending = s.pending := rfl
@[simp] theorem State.cancel_part (o : Owner) : (s.cancel o).part = s.part := rfl
@[simp] theorem State.cancel_supply (o : Owner) : (s.cancel o).supply = s.supply := rfl
@[simp] theorem State.cancel_warnedRunning (o : Owner) : (s.cancel o).warnedRunning = s.warnedRunning := rfl
@[simp] theorem State.cancel_restored (o : Owner) : (s.cancel o).restored = s.restored := rfl
@[simp] theorem State.cancel_clock (o : Owner) : (s.cancel o).clock = s.clock := rfl
@[simp] theorem State.cancel_backupLost (o : Owner) : (s.cancel o).backupLost = s.backupLost := rfl
@[simp] theorem State.cancel_permits (o : Owner) : (s.cancel o).permits = s.permits := rfl
@[simp] theorem State.cancel_rooms (o : Owner) : (s.cancel o).rooms = s.rooms := rfl
@[simp] theorem State.cancel_doors (o : Owner) : (s.cancel o).doors = s.doors := rfl
@[simp] theorem State.cancel_roster (o : Owner) : (s.cancel o).roster = s.roster := rfl
@[simp] theorem State.cancel_deadlines (o : Owner) : (s.cancel o).deadlines = s.deadlines.filter fun e => e.owner != o := rfl
@[simp] theorem State.cancel_pairings (o : Owner) : (s.cancel o).pairings = s.pairings := rfl
@[simp] theorem State.cancel_channels (o : Owner) : (s.cancel o).channels = s.channels := rfl
@[simp] theorem State.cancel_evac (o : Owner) : (s.cancel o).evac = s.evac := rfl
@[simp] theorem State.cancel_ports (o : Owner) : (s.cancel o).ports = s.ports := rfl
@[simp] theorem State.cancel_link (o : Owner) : (s.cancel o).link = s.link := rfl
@[simp] theorem State.cancel_batch (o : Owner) : (s.cancel o).batch = s.batch := rfl
@[simp] theorem State.cancel_journal (o : Owner) : (s.cancel o).journal = s.journal := rfl
@[simp] theorem State.cancel_gapPending (o : Owner) : (s.cancel o).gapPending = s.gapPending := rfl
@[simp] theorem State.cancel_store (o : Owner) : (s.cancel o).store = s.store := rfl
@[simp] theorem State.cancel_snap (o : Owner) : (s.cancel o).snap = s.snap := rfl
@[simp] theorem State.cancel_muster (o : Owner) : (s.cancel o).muster = s.muster := rfl
@[simp] theorem State.cancel_freeCount (o : Owner) : (s.cancel o).freeCount = s.freeCount := rfl

/-! ### `State.cancelRecord` -/

@[simp] theorem State.cancelRecord_pending (c : Credential) : (s.cancelRecord c).pending = s.pending := rfl
@[simp] theorem State.cancelRecord_part (c : Credential) : (s.cancelRecord c).part = s.part := rfl
@[simp] theorem State.cancelRecord_supply (c : Credential) : (s.cancelRecord c).supply = s.supply := rfl
@[simp] theorem State.cancelRecord_warnedRunning (c : Credential) : (s.cancelRecord c).warnedRunning = s.warnedRunning := rfl
@[simp] theorem State.cancelRecord_restored (c : Credential) : (s.cancelRecord c).restored = s.restored := rfl
@[simp] theorem State.cancelRecord_clock (c : Credential) : (s.cancelRecord c).clock = s.clock := rfl
@[simp] theorem State.cancelRecord_backupLost (c : Credential) : (s.cancelRecord c).backupLost = s.backupLost := rfl
@[simp] theorem State.cancelRecord_permits (c : Credential) : (s.cancelRecord c).permits = s.permits := rfl
@[simp] theorem State.cancelRecord_rooms (c : Credential) : (s.cancelRecord c).rooms = s.rooms := rfl
@[simp] theorem State.cancelRecord_doors (c : Credential) : (s.cancelRecord c).doors = s.doors := rfl
@[simp] theorem State.cancelRecord_roster (c : Credential) : (s.cancelRecord c).roster = s.roster := rfl
@[simp] theorem State.cancelRecord_deadlines (c : Credential) : (s.cancelRecord c).deadlines = s.deadlines.filter fun e => !e.owner.ofRecord c := rfl
@[simp] theorem State.cancelRecord_pairings (c : Credential) : (s.cancelRecord c).pairings = s.pairings := rfl
@[simp] theorem State.cancelRecord_channels (c : Credential) : (s.cancelRecord c).channels = s.channels := rfl
@[simp] theorem State.cancelRecord_evac (c : Credential) : (s.cancelRecord c).evac = s.evac := rfl
@[simp] theorem State.cancelRecord_ports (c : Credential) : (s.cancelRecord c).ports = s.ports := rfl
@[simp] theorem State.cancelRecord_link (c : Credential) : (s.cancelRecord c).link = s.link := rfl
@[simp] theorem State.cancelRecord_batch (c : Credential) : (s.cancelRecord c).batch = s.batch := rfl
@[simp] theorem State.cancelRecord_journal (c : Credential) : (s.cancelRecord c).journal = s.journal := rfl
@[simp] theorem State.cancelRecord_gapPending (c : Credential) : (s.cancelRecord c).gapPending = s.gapPending := rfl
@[simp] theorem State.cancelRecord_store (c : Credential) : (s.cancelRecord c).store = s.store := rfl
@[simp] theorem State.cancelRecord_snap (c : Credential) : (s.cancelRecord c).snap = s.snap := rfl
@[simp] theorem State.cancelRecord_muster (c : Credential) : (s.cancelRecord c).muster = s.muster := rfl
@[simp] theorem State.cancelRecord_freeCount (c : Credential) : (s.cancelRecord c).freeCount = s.freeCount := rfl

/-! ### `State.arm` -/

@[simp] theorem State.arm_pending (o : Owner) (t : EstateTime) : (s.arm o t).pending = s.pending := rfl
@[simp] theorem State.arm_part (o : Owner) (t : EstateTime) : (s.arm o t).part = s.part := rfl
@[simp] theorem State.arm_supply (o : Owner) (t : EstateTime) : (s.arm o t).supply = s.supply := rfl
@[simp] theorem State.arm_warnedRunning (o : Owner) (t : EstateTime) : (s.arm o t).warnedRunning = s.warnedRunning := rfl
@[simp] theorem State.arm_restored (o : Owner) (t : EstateTime) : (s.arm o t).restored = s.restored := rfl
@[simp] theorem State.arm_clock (o : Owner) (t : EstateTime) : (s.arm o t).clock = s.clock := rfl
@[simp] theorem State.arm_backupLost (o : Owner) (t : EstateTime) : (s.arm o t).backupLost = s.backupLost := rfl
@[simp] theorem State.arm_permits (o : Owner) (t : EstateTime) : (s.arm o t).permits = s.permits := rfl
@[simp] theorem State.arm_rooms (o : Owner) (t : EstateTime) : (s.arm o t).rooms = s.rooms := rfl
@[simp] theorem State.arm_doors (o : Owner) (t : EstateTime) : (s.arm o t).doors = s.doors := rfl
@[simp] theorem State.arm_roster (o : Owner) (t : EstateTime) : (s.arm o t).roster = s.roster := rfl
@[simp] theorem State.arm_deadlines (o : Owner) (t : EstateTime) : (s.arm o t).deadlines = insertDeadline { due := t, owner := o } (s.deadlines.filter fun e => !e.owner.sameSlot o) := rfl
@[simp] theorem State.arm_pairings (o : Owner) (t : EstateTime) : (s.arm o t).pairings = s.pairings := rfl
@[simp] theorem State.arm_channels (o : Owner) (t : EstateTime) : (s.arm o t).channels = s.channels := rfl
@[simp] theorem State.arm_evac (o : Owner) (t : EstateTime) : (s.arm o t).evac = s.evac := rfl
@[simp] theorem State.arm_ports (o : Owner) (t : EstateTime) : (s.arm o t).ports = s.ports := rfl
@[simp] theorem State.arm_link (o : Owner) (t : EstateTime) : (s.arm o t).link = s.link := rfl
@[simp] theorem State.arm_batch (o : Owner) (t : EstateTime) : (s.arm o t).batch = s.batch := rfl
@[simp] theorem State.arm_journal (o : Owner) (t : EstateTime) : (s.arm o t).journal = s.journal := rfl
@[simp] theorem State.arm_gapPending (o : Owner) (t : EstateTime) : (s.arm o t).gapPending = s.gapPending := rfl
@[simp] theorem State.arm_store (o : Owner) (t : EstateTime) : (s.arm o t).store = s.store := rfl
@[simp] theorem State.arm_snap (o : Owner) (t : EstateTime) : (s.arm o t).snap = s.snap := rfl
@[simp] theorem State.arm_muster (o : Owner) (t : EstateTime) : (s.arm o t).muster = s.muster := rfl
@[simp] theorem State.arm_freeCount (o : Owner) (t : EstateTime) : (s.arm o t).freeCount = s.freeCount := rfl

/-! ### `State.updatePermit` -/

@[simp] theorem State.updatePermit_pending (n : PermitNo) (f : Permit → Permit) : (s.updatePermit n f).pending = s.pending := rfl
@[simp] theorem State.updatePermit_part (n : PermitNo) (f : Permit → Permit) : (s.updatePermit n f).part = s.part := rfl
@[simp] theorem State.updatePermit_supply (n : PermitNo) (f : Permit → Permit) : (s.updatePermit n f).supply = s.supply := rfl
@[simp] theorem State.updatePermit_warnedRunning (n : PermitNo) (f : Permit → Permit) : (s.updatePermit n f).warnedRunning = s.warnedRunning := rfl
@[simp] theorem State.updatePermit_restored (n : PermitNo) (f : Permit → Permit) : (s.updatePermit n f).restored = s.restored := rfl
@[simp] theorem State.updatePermit_clock (n : PermitNo) (f : Permit → Permit) : (s.updatePermit n f).clock = s.clock := rfl
@[simp] theorem State.updatePermit_backupLost (n : PermitNo) (f : Permit → Permit) : (s.updatePermit n f).backupLost = s.backupLost := rfl
@[simp] theorem State.updatePermit_permits (n : PermitNo) (f : Permit → Permit) : (s.updatePermit n f).permits = s.permits.map fun p => if p.defn.number == n then f p else p := rfl
@[simp] theorem State.updatePermit_rooms (n : PermitNo) (f : Permit → Permit) : (s.updatePermit n f).rooms = s.rooms := rfl
@[simp] theorem State.updatePermit_doors (n : PermitNo) (f : Permit → Permit) : (s.updatePermit n f).doors = s.doors := rfl
@[simp] theorem State.updatePermit_roster (n : PermitNo) (f : Permit → Permit) : (s.updatePermit n f).roster = s.roster := rfl
@[simp] theorem State.updatePermit_deadlines (n : PermitNo) (f : Permit → Permit) : (s.updatePermit n f).deadlines = s.deadlines := rfl
@[simp] theorem State.updatePermit_pairings (n : PermitNo) (f : Permit → Permit) : (s.updatePermit n f).pairings = s.pairings := rfl
@[simp] theorem State.updatePermit_channels (n : PermitNo) (f : Permit → Permit) : (s.updatePermit n f).channels = s.channels := rfl
@[simp] theorem State.updatePermit_evac (n : PermitNo) (f : Permit → Permit) : (s.updatePermit n f).evac = s.evac := rfl
@[simp] theorem State.updatePermit_ports (n : PermitNo) (f : Permit → Permit) : (s.updatePermit n f).ports = s.ports := rfl
@[simp] theorem State.updatePermit_link (n : PermitNo) (f : Permit → Permit) : (s.updatePermit n f).link = s.link := rfl
@[simp] theorem State.updatePermit_batch (n : PermitNo) (f : Permit → Permit) : (s.updatePermit n f).batch = s.batch := rfl
@[simp] theorem State.updatePermit_journal (n : PermitNo) (f : Permit → Permit) : (s.updatePermit n f).journal = s.journal := rfl
@[simp] theorem State.updatePermit_gapPending (n : PermitNo) (f : Permit → Permit) : (s.updatePermit n f).gapPending = s.gapPending := rfl
@[simp] theorem State.updatePermit_store (n : PermitNo) (f : Permit → Permit) : (s.updatePermit n f).store = s.store := rfl
@[simp] theorem State.updatePermit_snap (n : PermitNo) (f : Permit → Permit) : (s.updatePermit n f).snap = s.snap := rfl
@[simp] theorem State.updatePermit_muster (n : PermitNo) (f : Permit → Permit) : (s.updatePermit n f).muster = s.muster := rfl
@[simp] theorem State.updatePermit_freeCount (n : PermitNo) (f : Permit → Permit) : (s.updatePermit n f).freeCount = s.freeCount := rfl

/-! ### `State.updateRecord` -/

@[simp] theorem State.updateRecord_pending (c : Credential) (f : Occupant → Occupant) : (s.updateRecord c f).pending = s.pending := rfl
@[simp] theorem State.updateRecord_part (c : Credential) (f : Occupant → Occupant) : (s.updateRecord c f).part = s.part := rfl
@[simp] theorem State.updateRecord_supply (c : Credential) (f : Occupant → Occupant) : (s.updateRecord c f).supply = s.supply := rfl
@[simp] theorem State.updateRecord_warnedRunning (c : Credential) (f : Occupant → Occupant) : (s.updateRecord c f).warnedRunning = s.warnedRunning := rfl
@[simp] theorem State.updateRecord_restored (c : Credential) (f : Occupant → Occupant) : (s.updateRecord c f).restored = s.restored := rfl
@[simp] theorem State.updateRecord_clock (c : Credential) (f : Occupant → Occupant) : (s.updateRecord c f).clock = s.clock := rfl
@[simp] theorem State.updateRecord_backupLost (c : Credential) (f : Occupant → Occupant) : (s.updateRecord c f).backupLost = s.backupLost := rfl
@[simp] theorem State.updateRecord_permits (c : Credential) (f : Occupant → Occupant) : (s.updateRecord c f).permits = s.permits := rfl
@[simp] theorem State.updateRecord_rooms (c : Credential) (f : Occupant → Occupant) : (s.updateRecord c f).rooms = s.rooms := rfl
@[simp] theorem State.updateRecord_doors (c : Credential) (f : Occupant → Occupant) : (s.updateRecord c f).doors = s.doors := rfl
@[simp] theorem State.updateRecord_roster (c : Credential) (f : Occupant → Occupant) : (s.updateRecord c f).roster = s.roster.map fun o => if o.cred == c then f o else o := rfl
@[simp] theorem State.updateRecord_deadlines (c : Credential) (f : Occupant → Occupant) : (s.updateRecord c f).deadlines = s.deadlines := rfl
@[simp] theorem State.updateRecord_pairings (c : Credential) (f : Occupant → Occupant) : (s.updateRecord c f).pairings = s.pairings := rfl
@[simp] theorem State.updateRecord_channels (c : Credential) (f : Occupant → Occupant) : (s.updateRecord c f).channels = s.channels := rfl
@[simp] theorem State.updateRecord_evac (c : Credential) (f : Occupant → Occupant) : (s.updateRecord c f).evac = s.evac := rfl
@[simp] theorem State.updateRecord_ports (c : Credential) (f : Occupant → Occupant) : (s.updateRecord c f).ports = s.ports := rfl
@[simp] theorem State.updateRecord_link (c : Credential) (f : Occupant → Occupant) : (s.updateRecord c f).link = s.link := rfl
@[simp] theorem State.updateRecord_batch (c : Credential) (f : Occupant → Occupant) : (s.updateRecord c f).batch = s.batch := rfl
@[simp] theorem State.updateRecord_journal (c : Credential) (f : Occupant → Occupant) : (s.updateRecord c f).journal = s.journal := rfl
@[simp] theorem State.updateRecord_gapPending (c : Credential) (f : Occupant → Occupant) : (s.updateRecord c f).gapPending = s.gapPending := rfl
@[simp] theorem State.updateRecord_store (c : Credential) (f : Occupant → Occupant) : (s.updateRecord c f).store = s.store := rfl
@[simp] theorem State.updateRecord_snap (c : Credential) (f : Occupant → Occupant) : (s.updateRecord c f).snap = s.snap := rfl
@[simp] theorem State.updateRecord_muster (c : Credential) (f : Occupant → Occupant) : (s.updateRecord c f).muster = s.muster := rfl
@[simp] theorem State.updateRecord_freeCount (c : Credential) (f : Occupant → Occupant) : (s.updateRecord c f).freeCount = s.freeCount := rfl

/-! ### `State.setRoom` -/

@[simp] theorem State.setRoom_pending (r : RoomId) (x : Room) : (s.setRoom r x).pending = s.pending := rfl
@[simp] theorem State.setRoom_part (r : RoomId) (x : Room) : (s.setRoom r x).part = s.part := rfl
@[simp] theorem State.setRoom_supply (r : RoomId) (x : Room) : (s.setRoom r x).supply = s.supply := rfl
@[simp] theorem State.setRoom_warnedRunning (r : RoomId) (x : Room) : (s.setRoom r x).warnedRunning = s.warnedRunning := rfl
@[simp] theorem State.setRoom_restored (r : RoomId) (x : Room) : (s.setRoom r x).restored = s.restored := rfl
@[simp] theorem State.setRoom_clock (r : RoomId) (x : Room) : (s.setRoom r x).clock = s.clock := rfl
@[simp] theorem State.setRoom_backupLost (r : RoomId) (x : Room) : (s.setRoom r x).backupLost = s.backupLost := rfl
@[simp] theorem State.setRoom_permits (r : RoomId) (x : Room) : (s.setRoom r x).permits = s.permits := rfl
@[simp] theorem State.setRoom_rooms (r : RoomId) (x : Room) : (s.setRoom r x).rooms = s.rooms.set r.val x r.isLt := rfl
@[simp] theorem State.setRoom_doors (r : RoomId) (x : Room) : (s.setRoom r x).doors = s.doors := rfl
@[simp] theorem State.setRoom_roster (r : RoomId) (x : Room) : (s.setRoom r x).roster = s.roster := rfl
@[simp] theorem State.setRoom_deadlines (r : RoomId) (x : Room) : (s.setRoom r x).deadlines = s.deadlines := rfl
@[simp] theorem State.setRoom_pairings (r : RoomId) (x : Room) : (s.setRoom r x).pairings = s.pairings := rfl
@[simp] theorem State.setRoom_channels (r : RoomId) (x : Room) : (s.setRoom r x).channels = s.channels := rfl
@[simp] theorem State.setRoom_evac (r : RoomId) (x : Room) : (s.setRoom r x).evac = s.evac := rfl
@[simp] theorem State.setRoom_ports (r : RoomId) (x : Room) : (s.setRoom r x).ports = s.ports := rfl
@[simp] theorem State.setRoom_link (r : RoomId) (x : Room) : (s.setRoom r x).link = s.link := rfl
@[simp] theorem State.setRoom_batch (r : RoomId) (x : Room) : (s.setRoom r x).batch = s.batch := rfl
@[simp] theorem State.setRoom_journal (r : RoomId) (x : Room) : (s.setRoom r x).journal = s.journal := rfl
@[simp] theorem State.setRoom_gapPending (r : RoomId) (x : Room) : (s.setRoom r x).gapPending = s.gapPending := rfl
@[simp] theorem State.setRoom_store (r : RoomId) (x : Room) : (s.setRoom r x).store = s.store := rfl
@[simp] theorem State.setRoom_snap (r : RoomId) (x : Room) : (s.setRoom r x).snap = s.snap := rfl
@[simp] theorem State.setRoom_muster (r : RoomId) (x : Room) : (s.setRoom r x).muster = s.muster := rfl
@[simp] theorem State.setRoom_freeCount (r : RoomId) (x : Room) : (s.setRoom r x).freeCount = s.freeCount := rfl

/-! ### `State.setDoor` -/

@[simp] theorem State.setDoor_pending (d : DoorId) (x : Option DoorMapping) : (s.setDoor d x).pending = s.pending := rfl
@[simp] theorem State.setDoor_part (d : DoorId) (x : Option DoorMapping) : (s.setDoor d x).part = s.part := rfl
@[simp] theorem State.setDoor_supply (d : DoorId) (x : Option DoorMapping) : (s.setDoor d x).supply = s.supply := rfl
@[simp] theorem State.setDoor_warnedRunning (d : DoorId) (x : Option DoorMapping) : (s.setDoor d x).warnedRunning = s.warnedRunning := rfl
@[simp] theorem State.setDoor_restored (d : DoorId) (x : Option DoorMapping) : (s.setDoor d x).restored = s.restored := rfl
@[simp] theorem State.setDoor_clock (d : DoorId) (x : Option DoorMapping) : (s.setDoor d x).clock = s.clock := rfl
@[simp] theorem State.setDoor_backupLost (d : DoorId) (x : Option DoorMapping) : (s.setDoor d x).backupLost = s.backupLost := rfl
@[simp] theorem State.setDoor_permits (d : DoorId) (x : Option DoorMapping) : (s.setDoor d x).permits = s.permits := rfl
@[simp] theorem State.setDoor_rooms (d : DoorId) (x : Option DoorMapping) : (s.setDoor d x).rooms = s.rooms := rfl
@[simp] theorem State.setDoor_doors (d : DoorId) (x : Option DoorMapping) : (s.setDoor d x).doors = s.doors.set d.val x d.isLt := rfl
@[simp] theorem State.setDoor_roster (d : DoorId) (x : Option DoorMapping) : (s.setDoor d x).roster = s.roster := rfl
@[simp] theorem State.setDoor_deadlines (d : DoorId) (x : Option DoorMapping) : (s.setDoor d x).deadlines = s.deadlines := rfl
@[simp] theorem State.setDoor_pairings (d : DoorId) (x : Option DoorMapping) : (s.setDoor d x).pairings = s.pairings := rfl
@[simp] theorem State.setDoor_channels (d : DoorId) (x : Option DoorMapping) : (s.setDoor d x).channels = s.channels := rfl
@[simp] theorem State.setDoor_evac (d : DoorId) (x : Option DoorMapping) : (s.setDoor d x).evac = s.evac := rfl
@[simp] theorem State.setDoor_ports (d : DoorId) (x : Option DoorMapping) : (s.setDoor d x).ports = s.ports := rfl
@[simp] theorem State.setDoor_link (d : DoorId) (x : Option DoorMapping) : (s.setDoor d x).link = s.link := rfl
@[simp] theorem State.setDoor_batch (d : DoorId) (x : Option DoorMapping) : (s.setDoor d x).batch = s.batch := rfl
@[simp] theorem State.setDoor_journal (d : DoorId) (x : Option DoorMapping) : (s.setDoor d x).journal = s.journal := rfl
@[simp] theorem State.setDoor_gapPending (d : DoorId) (x : Option DoorMapping) : (s.setDoor d x).gapPending = s.gapPending := rfl
@[simp] theorem State.setDoor_store (d : DoorId) (x : Option DoorMapping) : (s.setDoor d x).store = s.store := rfl
@[simp] theorem State.setDoor_snap (d : DoorId) (x : Option DoorMapping) : (s.setDoor d x).snap = s.snap := rfl
@[simp] theorem State.setDoor_muster (d : DoorId) (x : Option DoorMapping) : (s.setDoor d x).muster = s.muster := rfl
@[simp] theorem State.setDoor_freeCount (d : DoorId) (x : Option DoorMapping) : (s.setDoor d x).freeCount = s.freeCount := rfl

/-! ### `State.setPairing` -/

@[simp] theorem State.setPairing_pending (d : DoorId) (x : Option Pairing) : (s.setPairing d x).pending = s.pending := rfl
@[simp] theorem State.setPairing_part (d : DoorId) (x : Option Pairing) : (s.setPairing d x).part = s.part := rfl
@[simp] theorem State.setPairing_supply (d : DoorId) (x : Option Pairing) : (s.setPairing d x).supply = s.supply := rfl
@[simp] theorem State.setPairing_warnedRunning (d : DoorId) (x : Option Pairing) : (s.setPairing d x).warnedRunning = s.warnedRunning := rfl
@[simp] theorem State.setPairing_restored (d : DoorId) (x : Option Pairing) : (s.setPairing d x).restored = s.restored := rfl
@[simp] theorem State.setPairing_clock (d : DoorId) (x : Option Pairing) : (s.setPairing d x).clock = s.clock := rfl
@[simp] theorem State.setPairing_backupLost (d : DoorId) (x : Option Pairing) : (s.setPairing d x).backupLost = s.backupLost := rfl
@[simp] theorem State.setPairing_permits (d : DoorId) (x : Option Pairing) : (s.setPairing d x).permits = s.permits := rfl
@[simp] theorem State.setPairing_rooms (d : DoorId) (x : Option Pairing) : (s.setPairing d x).rooms = s.rooms := rfl
@[simp] theorem State.setPairing_doors (d : DoorId) (x : Option Pairing) : (s.setPairing d x).doors = s.doors := rfl
@[simp] theorem State.setPairing_roster (d : DoorId) (x : Option Pairing) : (s.setPairing d x).roster = s.roster := rfl
@[simp] theorem State.setPairing_deadlines (d : DoorId) (x : Option Pairing) : (s.setPairing d x).deadlines = s.deadlines := rfl
@[simp] theorem State.setPairing_pairings (d : DoorId) (x : Option Pairing) : (s.setPairing d x).pairings = s.pairings.set d.val x d.isLt := rfl
@[simp] theorem State.setPairing_channels (d : DoorId) (x : Option Pairing) : (s.setPairing d x).channels = s.channels := rfl
@[simp] theorem State.setPairing_evac (d : DoorId) (x : Option Pairing) : (s.setPairing d x).evac = s.evac := rfl
@[simp] theorem State.setPairing_ports (d : DoorId) (x : Option Pairing) : (s.setPairing d x).ports = s.ports := rfl
@[simp] theorem State.setPairing_link (d : DoorId) (x : Option Pairing) : (s.setPairing d x).link = s.link := rfl
@[simp] theorem State.setPairing_batch (d : DoorId) (x : Option Pairing) : (s.setPairing d x).batch = s.batch := rfl
@[simp] theorem State.setPairing_journal (d : DoorId) (x : Option Pairing) : (s.setPairing d x).journal = s.journal := rfl
@[simp] theorem State.setPairing_gapPending (d : DoorId) (x : Option Pairing) : (s.setPairing d x).gapPending = s.gapPending := rfl
@[simp] theorem State.setPairing_store (d : DoorId) (x : Option Pairing) : (s.setPairing d x).store = s.store := rfl
@[simp] theorem State.setPairing_snap (d : DoorId) (x : Option Pairing) : (s.setPairing d x).snap = s.snap := rfl
@[simp] theorem State.setPairing_muster (d : DoorId) (x : Option Pairing) : (s.setPairing d x).muster = s.muster := rfl
@[simp] theorem State.setPairing_freeCount (d : DoorId) (x : Option Pairing) : (s.setPairing d x).freeCount = s.freeCount := rfl

/-! ### `State.setChannel` -/

@[simp] theorem State.setChannel_pending (r : RoomId) (x : Channel) : (s.setChannel r x).pending = s.pending := rfl
@[simp] theorem State.setChannel_part (r : RoomId) (x : Channel) : (s.setChannel r x).part = s.part := rfl
@[simp] theorem State.setChannel_supply (r : RoomId) (x : Channel) : (s.setChannel r x).supply = s.supply := rfl
@[simp] theorem State.setChannel_warnedRunning (r : RoomId) (x : Channel) : (s.setChannel r x).warnedRunning = s.warnedRunning := rfl
@[simp] theorem State.setChannel_restored (r : RoomId) (x : Channel) : (s.setChannel r x).restored = s.restored := rfl
@[simp] theorem State.setChannel_clock (r : RoomId) (x : Channel) : (s.setChannel r x).clock = s.clock := rfl
@[simp] theorem State.setChannel_backupLost (r : RoomId) (x : Channel) : (s.setChannel r x).backupLost = s.backupLost := rfl
@[simp] theorem State.setChannel_permits (r : RoomId) (x : Channel) : (s.setChannel r x).permits = s.permits := rfl
@[simp] theorem State.setChannel_rooms (r : RoomId) (x : Channel) : (s.setChannel r x).rooms = s.rooms := rfl
@[simp] theorem State.setChannel_doors (r : RoomId) (x : Channel) : (s.setChannel r x).doors = s.doors := rfl
@[simp] theorem State.setChannel_roster (r : RoomId) (x : Channel) : (s.setChannel r x).roster = s.roster := rfl
@[simp] theorem State.setChannel_deadlines (r : RoomId) (x : Channel) : (s.setChannel r x).deadlines = s.deadlines := rfl
@[simp] theorem State.setChannel_pairings (r : RoomId) (x : Channel) : (s.setChannel r x).pairings = s.pairings := rfl
@[simp] theorem State.setChannel_channels (r : RoomId) (x : Channel) : (s.setChannel r x).channels = s.channels.set r.val x r.isLt := rfl
@[simp] theorem State.setChannel_evac (r : RoomId) (x : Channel) : (s.setChannel r x).evac = s.evac := rfl
@[simp] theorem State.setChannel_ports (r : RoomId) (x : Channel) : (s.setChannel r x).ports = s.ports := rfl
@[simp] theorem State.setChannel_link (r : RoomId) (x : Channel) : (s.setChannel r x).link = s.link := rfl
@[simp] theorem State.setChannel_batch (r : RoomId) (x : Channel) : (s.setChannel r x).batch = s.batch := rfl
@[simp] theorem State.setChannel_journal (r : RoomId) (x : Channel) : (s.setChannel r x).journal = s.journal := rfl
@[simp] theorem State.setChannel_gapPending (r : RoomId) (x : Channel) : (s.setChannel r x).gapPending = s.gapPending := rfl
@[simp] theorem State.setChannel_store (r : RoomId) (x : Channel) : (s.setChannel r x).store = s.store := rfl
@[simp] theorem State.setChannel_snap (r : RoomId) (x : Channel) : (s.setChannel r x).snap = s.snap := rfl
@[simp] theorem State.setChannel_muster (r : RoomId) (x : Channel) : (s.setChannel r x).muster = s.muster := rfl
@[simp] theorem State.setChannel_freeCount (r : RoomId) (x : Channel) : (s.setChannel r x).freeCount = s.freeCount := rfl

/-! ### `State.setPort` -/

@[simp] theorem State.setPort_pending (p : PortId) (x : Port) : (s.setPort p x).pending = s.pending := rfl
@[simp] theorem State.setPort_part (p : PortId) (x : Port) : (s.setPort p x).part = s.part := rfl
@[simp] theorem State.setPort_supply (p : PortId) (x : Port) : (s.setPort p x).supply = s.supply := rfl
@[simp] theorem State.setPort_warnedRunning (p : PortId) (x : Port) : (s.setPort p x).warnedRunning = s.warnedRunning := rfl
@[simp] theorem State.setPort_restored (p : PortId) (x : Port) : (s.setPort p x).restored = s.restored := rfl
@[simp] theorem State.setPort_clock (p : PortId) (x : Port) : (s.setPort p x).clock = s.clock := rfl
@[simp] theorem State.setPort_backupLost (p : PortId) (x : Port) : (s.setPort p x).backupLost = s.backupLost := rfl
@[simp] theorem State.setPort_permits (p : PortId) (x : Port) : (s.setPort p x).permits = s.permits := rfl
@[simp] theorem State.setPort_rooms (p : PortId) (x : Port) : (s.setPort p x).rooms = s.rooms := rfl
@[simp] theorem State.setPort_doors (p : PortId) (x : Port) : (s.setPort p x).doors = s.doors := rfl
@[simp] theorem State.setPort_roster (p : PortId) (x : Port) : (s.setPort p x).roster = s.roster := rfl
@[simp] theorem State.setPort_deadlines (p : PortId) (x : Port) : (s.setPort p x).deadlines = s.deadlines := rfl
@[simp] theorem State.setPort_pairings (p : PortId) (x : Port) : (s.setPort p x).pairings = s.pairings := rfl
@[simp] theorem State.setPort_channels (p : PortId) (x : Port) : (s.setPort p x).channels = s.channels := rfl
@[simp] theorem State.setPort_evac (p : PortId) (x : Port) : (s.setPort p x).evac = s.evac := rfl
@[simp] theorem State.setPort_ports (p : PortId) (x : Port) : (s.setPort p x).ports = s.ports.set p.val x p.isLt := rfl
@[simp] theorem State.setPort_link (p : PortId) (x : Port) : (s.setPort p x).link = s.link := rfl
@[simp] theorem State.setPort_batch (p : PortId) (x : Port) : (s.setPort p x).batch = s.batch := rfl
@[simp] theorem State.setPort_journal (p : PortId) (x : Port) : (s.setPort p x).journal = s.journal := rfl
@[simp] theorem State.setPort_gapPending (p : PortId) (x : Port) : (s.setPort p x).gapPending = s.gapPending := rfl
@[simp] theorem State.setPort_store (p : PortId) (x : Port) : (s.setPort p x).store = s.store := rfl
@[simp] theorem State.setPort_snap (p : PortId) (x : Port) : (s.setPort p x).snap = s.snap := rfl
@[simp] theorem State.setPort_muster (p : PortId) (x : Port) : (s.setPort p x).muster = s.muster := rfl
@[simp] theorem State.setPort_freeCount (p : PortId) (x : Port) : (s.setPort p x).freeCount = s.freeCount := rfl

/-! ### `State.setMode` -/

@[simp] theorem State.setMode_pending (r : RoomId) (m : Mode) : (s.setMode r m).pending = s.pending := rfl
@[simp] theorem State.setMode_part (r : RoomId) (m : Mode) : (s.setMode r m).part = s.part := rfl
@[simp] theorem State.setMode_supply (r : RoomId) (m : Mode) : (s.setMode r m).supply = s.supply := rfl
@[simp] theorem State.setMode_warnedRunning (r : RoomId) (m : Mode) : (s.setMode r m).warnedRunning = s.warnedRunning := rfl
@[simp] theorem State.setMode_restored (r : RoomId) (m : Mode) : (s.setMode r m).restored = s.restored := rfl
@[simp] theorem State.setMode_clock (r : RoomId) (m : Mode) : (s.setMode r m).clock = s.clock := rfl
@[simp] theorem State.setMode_backupLost (r : RoomId) (m : Mode) : (s.setMode r m).backupLost = s.backupLost := rfl
@[simp] theorem State.setMode_permits (r : RoomId) (m : Mode) : (s.setMode r m).permits = s.permits := rfl
@[simp] theorem State.setMode_rooms (r : RoomId) (m : Mode) : (s.setMode r m).rooms = s.rooms.set r.val { s.room r with mode := m } r.isLt := rfl
@[simp] theorem State.setMode_doors (r : RoomId) (m : Mode) : (s.setMode r m).doors = s.doors := rfl
@[simp] theorem State.setMode_roster (r : RoomId) (m : Mode) : (s.setMode r m).roster = s.roster := rfl
@[simp] theorem State.setMode_deadlines (r : RoomId) (m : Mode) : (s.setMode r m).deadlines = s.deadlines := rfl
@[simp] theorem State.setMode_pairings (r : RoomId) (m : Mode) : (s.setMode r m).pairings = s.pairings := rfl
@[simp] theorem State.setMode_channels (r : RoomId) (m : Mode) : (s.setMode r m).channels = s.channels := rfl
@[simp] theorem State.setMode_evac (r : RoomId) (m : Mode) : (s.setMode r m).evac = s.evac := rfl
@[simp] theorem State.setMode_ports (r : RoomId) (m : Mode) : (s.setMode r m).ports = s.ports := rfl
@[simp] theorem State.setMode_link (r : RoomId) (m : Mode) : (s.setMode r m).link = s.link := rfl
@[simp] theorem State.setMode_batch (r : RoomId) (m : Mode) : (s.setMode r m).batch = s.batch := rfl
@[simp] theorem State.setMode_journal (r : RoomId) (m : Mode) : (s.setMode r m).journal = s.journal := rfl
@[simp] theorem State.setMode_gapPending (r : RoomId) (m : Mode) : (s.setMode r m).gapPending = s.gapPending := rfl
@[simp] theorem State.setMode_store (r : RoomId) (m : Mode) : (s.setMode r m).store = s.store := rfl
@[simp] theorem State.setMode_snap (r : RoomId) (m : Mode) : (s.setMode r m).snap = s.snap := rfl
@[simp] theorem State.setMode_muster (r : RoomId) (m : Mode) : (s.setMode r m).muster = s.muster := rfl
@[simp] theorem State.setMode_freeCount (r : RoomId) (m : Mode) : (s.setMode r m).freeCount = s.freeCount := rfl

/-! ### `State.setPrior` -/

@[simp] theorem State.setPrior_pending (r : RoomId) (m : Mode) : (s.setPrior r m).pending = s.pending := rfl
@[simp] theorem State.setPrior_part (r : RoomId) (m : Mode) : (s.setPrior r m).part = s.part := rfl
@[simp] theorem State.setPrior_supply (r : RoomId) (m : Mode) : (s.setPrior r m).supply = s.supply := rfl
@[simp] theorem State.setPrior_warnedRunning (r : RoomId) (m : Mode) : (s.setPrior r m).warnedRunning = s.warnedRunning := rfl
@[simp] theorem State.setPrior_restored (r : RoomId) (m : Mode) : (s.setPrior r m).restored = s.restored := rfl
@[simp] theorem State.setPrior_clock (r : RoomId) (m : Mode) : (s.setPrior r m).clock = s.clock := rfl
@[simp] theorem State.setPrior_backupLost (r : RoomId) (m : Mode) : (s.setPrior r m).backupLost = s.backupLost := rfl
@[simp] theorem State.setPrior_permits (r : RoomId) (m : Mode) : (s.setPrior r m).permits = s.permits := rfl
@[simp] theorem State.setPrior_rooms (r : RoomId) (m : Mode) : (s.setPrior r m).rooms = s.rooms.set r.val { s.room r with prior := m } r.isLt := rfl
@[simp] theorem State.setPrior_doors (r : RoomId) (m : Mode) : (s.setPrior r m).doors = s.doors := rfl
@[simp] theorem State.setPrior_roster (r : RoomId) (m : Mode) : (s.setPrior r m).roster = s.roster := rfl
@[simp] theorem State.setPrior_deadlines (r : RoomId) (m : Mode) : (s.setPrior r m).deadlines = s.deadlines := rfl
@[simp] theorem State.setPrior_pairings (r : RoomId) (m : Mode) : (s.setPrior r m).pairings = s.pairings := rfl
@[simp] theorem State.setPrior_channels (r : RoomId) (m : Mode) : (s.setPrior r m).channels = s.channels := rfl
@[simp] theorem State.setPrior_evac (r : RoomId) (m : Mode) : (s.setPrior r m).evac = s.evac := rfl
@[simp] theorem State.setPrior_ports (r : RoomId) (m : Mode) : (s.setPrior r m).ports = s.ports := rfl
@[simp] theorem State.setPrior_link (r : RoomId) (m : Mode) : (s.setPrior r m).link = s.link := rfl
@[simp] theorem State.setPrior_batch (r : RoomId) (m : Mode) : (s.setPrior r m).batch = s.batch := rfl
@[simp] theorem State.setPrior_journal (r : RoomId) (m : Mode) : (s.setPrior r m).journal = s.journal := rfl
@[simp] theorem State.setPrior_gapPending (r : RoomId) (m : Mode) : (s.setPrior r m).gapPending = s.gapPending := rfl
@[simp] theorem State.setPrior_store (r : RoomId) (m : Mode) : (s.setPrior r m).store = s.store := rfl
@[simp] theorem State.setPrior_snap (r : RoomId) (m : Mode) : (s.setPrior r m).snap = s.snap := rfl
@[simp] theorem State.setPrior_muster (r : RoomId) (m : Mode) : (s.setPrior r m).muster = s.muster := rfl
@[simp] theorem State.setPrior_freeCount (r : RoomId) (m : Mode) : (s.setPrior r m).freeCount = s.freeCount := rfl

/-! ### `State.place` -/

@[simp] theorem State.place_pending (p : PortId) (i : Item) : (s.place p i).pending = s.pending := rfl
@[simp] theorem State.place_part (p : PortId) (i : Item) : (s.place p i).part = s.part := rfl
@[simp] theorem State.place_supply (p : PortId) (i : Item) : (s.place p i).supply = s.supply := rfl
@[simp] theorem State.place_warnedRunning (p : PortId) (i : Item) : (s.place p i).warnedRunning = s.warnedRunning := rfl
@[simp] theorem State.place_restored (p : PortId) (i : Item) : (s.place p i).restored = s.restored := rfl
@[simp] theorem State.place_clock (p : PortId) (i : Item) : (s.place p i).clock = s.clock := rfl
@[simp] theorem State.place_backupLost (p : PortId) (i : Item) : (s.place p i).backupLost = s.backupLost := rfl
@[simp] theorem State.place_permits (p : PortId) (i : Item) : (s.place p i).permits = s.permits := rfl
@[simp] theorem State.place_rooms (p : PortId) (i : Item) : (s.place p i).rooms = s.rooms := rfl
@[simp] theorem State.place_doors (p : PortId) (i : Item) : (s.place p i).doors = s.doors := rfl
@[simp] theorem State.place_roster (p : PortId) (i : Item) : (s.place p i).roster = s.roster := rfl
@[simp] theorem State.place_deadlines (p : PortId) (i : Item) : (s.place p i).deadlines = s.deadlines := rfl
@[simp] theorem State.place_pairings (p : PortId) (i : Item) : (s.place p i).pairings = s.pairings := rfl
@[simp] theorem State.place_channels (p : PortId) (i : Item) : (s.place p i).channels = s.channels := rfl
@[simp] theorem State.place_evac (p : PortId) (i : Item) : (s.place p i).evac = s.evac := rfl
@[simp] theorem State.place_ports (p : PortId) (i : Item) : (s.place p i).ports = s.ports.set p.val { s.port p with queue := (s.port p).queue ++ [i] } p.isLt := rfl
@[simp] theorem State.place_link (p : PortId) (i : Item) : (s.place p i).link = s.link := rfl
@[simp] theorem State.place_batch (p : PortId) (i : Item) : (s.place p i).batch = s.batch := rfl
@[simp] theorem State.place_journal (p : PortId) (i : Item) : (s.place p i).journal = s.journal := rfl
@[simp] theorem State.place_gapPending (p : PortId) (i : Item) : (s.place p i).gapPending = s.gapPending := rfl
@[simp] theorem State.place_store (p : PortId) (i : Item) : (s.place p i).store = s.store := rfl
@[simp] theorem State.place_snap (p : PortId) (i : Item) : (s.place p i).snap = s.snap := rfl
@[simp] theorem State.place_muster (p : PortId) (i : Item) : (s.place p i).muster = s.muster := rfl
@[simp] theorem State.place_freeCount (p : PortId) (i : Item) : (s.place p i).freeCount = s.freeCount := rfl

/-! ### `State.clearPairing` -/

@[simp] theorem State.clearPairing_pending (d : DoorId) : (s.clearPairing d).pending = s.pending := rfl
@[simp] theorem State.clearPairing_part (d : DoorId) : (s.clearPairing d).part = s.part := rfl
@[simp] theorem State.clearPairing_supply (d : DoorId) : (s.clearPairing d).supply = s.supply := rfl
@[simp] theorem State.clearPairing_warnedRunning (d : DoorId) : (s.clearPairing d).warnedRunning = s.warnedRunning := rfl
@[simp] theorem State.clearPairing_restored (d : DoorId) : (s.clearPairing d).restored = s.restored := rfl
@[simp] theorem State.clearPairing_clock (d : DoorId) : (s.clearPairing d).clock = s.clock := rfl
@[simp] theorem State.clearPairing_backupLost (d : DoorId) : (s.clearPairing d).backupLost = s.backupLost := rfl
@[simp] theorem State.clearPairing_permits (d : DoorId) : (s.clearPairing d).permits = s.permits := rfl
@[simp] theorem State.clearPairing_rooms (d : DoorId) : (s.clearPairing d).rooms = s.rooms := rfl
@[simp] theorem State.clearPairing_doors (d : DoorId) : (s.clearPairing d).doors = s.doors := rfl
@[simp] theorem State.clearPairing_roster (d : DoorId) : (s.clearPairing d).roster = s.roster := rfl
@[simp] theorem State.clearPairing_deadlines (d : DoorId) : (s.clearPairing d).deadlines = s.deadlines.filter fun e => e.owner != .pair d := rfl
@[simp] theorem State.clearPairing_pairings (d : DoorId) : (s.clearPairing d).pairings = s.pairings.set d.val none d.isLt := rfl
@[simp] theorem State.clearPairing_channels (d : DoorId) : (s.clearPairing d).channels = s.channels := rfl
@[simp] theorem State.clearPairing_evac (d : DoorId) : (s.clearPairing d).evac = s.evac := rfl
@[simp] theorem State.clearPairing_ports (d : DoorId) : (s.clearPairing d).ports = s.ports := rfl
@[simp] theorem State.clearPairing_link (d : DoorId) : (s.clearPairing d).link = s.link := rfl
@[simp] theorem State.clearPairing_batch (d : DoorId) : (s.clearPairing d).batch = s.batch := rfl
@[simp] theorem State.clearPairing_journal (d : DoorId) : (s.clearPairing d).journal = s.journal := rfl
@[simp] theorem State.clearPairing_gapPending (d : DoorId) : (s.clearPairing d).gapPending = s.gapPending := rfl
@[simp] theorem State.clearPairing_store (d : DoorId) : (s.clearPairing d).store = s.store := rfl
@[simp] theorem State.clearPairing_snap (d : DoorId) : (s.clearPairing d).snap = s.snap := rfl
@[simp] theorem State.clearPairing_muster (d : DoorId) : (s.clearPairing d).muster = s.muster := rfl
@[simp] theorem State.clearPairing_freeCount (d : DoorId) : (s.clearPairing d).freeCount = s.freeCount := rfl

/-! ### `State.write` -/

@[simp] theorem State.write_pending (e : JournalEntry) : (s.write e).pending = s.pending := by unfold State.write; split <;> rfl
@[simp] theorem State.write_part (e : JournalEntry) : (s.write e).part = s.part := by unfold State.write; split <;> rfl
@[simp] theorem State.write_supply (e : JournalEntry) : (s.write e).supply = s.supply := by unfold State.write; split <;> rfl
@[simp] theorem State.write_warnedRunning (e : JournalEntry) : (s.write e).warnedRunning = s.warnedRunning := by unfold State.write; split <;> rfl
@[simp] theorem State.write_restored (e : JournalEntry) : (s.write e).restored = s.restored := by unfold State.write; split <;> rfl
@[simp] theorem State.write_clock (e : JournalEntry) : (s.write e).clock = s.clock := by unfold State.write; split <;> rfl
@[simp] theorem State.write_backupLost (e : JournalEntry) : (s.write e).backupLost = s.backupLost := by unfold State.write; split <;> rfl
@[simp] theorem State.write_permits (e : JournalEntry) : (s.write e).permits = s.permits := by unfold State.write; split <;> rfl
@[simp] theorem State.write_rooms (e : JournalEntry) : (s.write e).rooms = s.rooms := by unfold State.write; split <;> rfl
@[simp] theorem State.write_doors (e : JournalEntry) : (s.write e).doors = s.doors := by unfold State.write; split <;> rfl
@[simp] theorem State.write_roster (e : JournalEntry) : (s.write e).roster = s.roster := by unfold State.write; split <;> rfl
@[simp] theorem State.write_deadlines (e : JournalEntry) : (s.write e).deadlines = s.deadlines := by unfold State.write; split <;> rfl
@[simp] theorem State.write_pairings (e : JournalEntry) : (s.write e).pairings = s.pairings := by unfold State.write; split <;> rfl
@[simp] theorem State.write_channels (e : JournalEntry) : (s.write e).channels = s.channels := by unfold State.write; split <;> rfl
@[simp] theorem State.write_evac (e : JournalEntry) : (s.write e).evac = s.evac := by unfold State.write; split <;> rfl
@[simp] theorem State.write_ports (e : JournalEntry) : (s.write e).ports = s.ports := by unfold State.write; split <;> rfl
@[simp] theorem State.write_link (e : JournalEntry) : (s.write e).link = s.link := by unfold State.write; split <;> rfl
@[simp] theorem State.write_batch (e : JournalEntry) : (s.write e).batch = s.batch := by unfold State.write; split <;> rfl
@[simp] theorem State.write_store (e : JournalEntry) : (s.write e).store = s.store := by unfold State.write; split <;> rfl
@[simp] theorem State.write_snap (e : JournalEntry) : (s.write e).snap = s.snap := by unfold State.write; split <;> rfl
@[simp] theorem State.write_muster (e : JournalEntry) : (s.write e).muster = s.muster := by unfold State.write; split <;> rfl
@[simp] theorem State.write_freeCount (e : JournalEntry) : (s.write e).freeCount = s.freeCount := by unfold State.write; split <;> rfl

theorem State.write_journal (e : JournalEntry) :
    (s.write e).journal =
      if s.journal.length < Config.journalMax then s.journal ++ [{ time := s.now, gap := s.gapPending, entry := e }]
      else s.journal := by
  unfold State.write; split <;> rfl

theorem State.write_gapPending (e : JournalEntry) :
    (s.write e).gapPending = decide (Config.journalMax ≤ s.journal.length) := by
  unfold State.write; split <;> simp <;> omega

/-! ### Reads after writes -/

/-- Reading a vector after a write to it. -/
theorem get_set {α : Type} {n : Nat} (v : Vector α n) (a b : Fin n) (x : α) :
    (v.set a.val x a.isLt).get b = if a = b then x else v.get b := by
  show (v.set a.val x a.isLt)[b.val] = if a = b then x else v[b.val]
  rw [Vector.getElem_set]
  simp [Fin.ext_iff]

theorem State.room_setRoom (a b : RoomId) (x : Room) : (s.setRoom a x).room b = if a = b then x else s.room b := by
  exact get_set _ a b x

@[simp] theorem State.room_setRoom_self (a : RoomId) (x : Room) : (s.setRoom a x).room a = x := by
  simp [State.room_setRoom]

theorem State.room_setRoom_other (a b : RoomId) (x : Room) (h : a ≠ b) : (s.setRoom a x).room b = s.room b := by
  simp [State.room_setRoom, h]

theorem State.door_setDoor (a b : DoorId) (x : Option DoorMapping) : (s.setDoor a x).door b = if a = b then x else s.door b := by
  exact get_set _ a b x

@[simp] theorem State.door_setDoor_self (a : DoorId) (x : Option DoorMapping) : (s.setDoor a x).door a = x := by
  simp [State.door_setDoor]

theorem State.door_setDoor_other (a b : DoorId) (x : Option DoorMapping) (h : a ≠ b) : (s.setDoor a x).door b = s.door b := by
  simp [State.door_setDoor, h]

theorem State.pairing_setPairing (a b : DoorId) (x : Option Pairing) : (s.setPairing a x).pairing b = if a = b then x else s.pairing b := by
  exact get_set _ a b x

@[simp] theorem State.pairing_setPairing_self (a : DoorId) (x : Option Pairing) : (s.setPairing a x).pairing a = x := by
  simp [State.pairing_setPairing]

theorem State.pairing_setPairing_other (a b : DoorId) (x : Option Pairing) (h : a ≠ b) : (s.setPairing a x).pairing b = s.pairing b := by
  simp [State.pairing_setPairing, h]

theorem State.channel_setChannel (a b : RoomId) (x : Channel) : (s.setChannel a x).channel b = if a = b then x else s.channel b := by
  exact get_set _ a b x

@[simp] theorem State.channel_setChannel_self (a : RoomId) (x : Channel) : (s.setChannel a x).channel a = x := by
  simp [State.channel_setChannel]

theorem State.channel_setChannel_other (a b : RoomId) (x : Channel) (h : a ≠ b) : (s.setChannel a x).channel b = s.channel b := by
  simp [State.channel_setChannel, h]

theorem State.port_setPort (a b : PortId) (x : Port) : (s.setPort a x).port b = if a = b then x else s.port b := by
  exact get_set _ a b x

@[simp] theorem State.port_setPort_self (a : PortId) (x : Port) : (s.setPort a x).port a = x := by
  simp [State.port_setPort]

theorem State.port_setPort_other (a b : PortId) (x : Port) (h : a ≠ b) : (s.setPort a x).port b = s.port b := by
  simp [State.port_setPort, h]

end Sys2Proof.Machine
end

