-- ==== Sys2Proof/Laws/Frames.lean ====
section
/-! SUPPORT. Everything the shared operations can do: for each, one lemma that names the fields it may change. A relation
`Told`, `Supervised`, `Resolved` or `Called` says which fields may differ, and that a journal within its 256 records stays
so. -/

namespace Sys2Proof.Machine

/-- Only outbound queues and the journal may differ. -/
structure Told (s t : State) : Prop where
  frame : ∃ ports journal gap, t = { s with ports := ports, journal := journal, gapPending := gap }
  journal : s.journalLaw → t.journalLaw

/-- Only the roster, the deadline queue, outbound queues and the journal may differ. -/
structure Supervised (s t : State) : Prop where
  frame : ∃ roster deadlines ports journal gap,
    t = { s with roster := roster, deadlines := deadlines, ports := ports, journal := journal, gapPending := gap }
  journal : s.journalLaw → t.journalLaw

/-- Only the permit table, the room table, the roster, the deadline queue, pending pairings, outbound queues and the
journal may differ. -/
structure Resolved (s t : State) : Prop where
  frame : ∃ permits rooms roster deadlines pairings ports journal gap,
    t = { s with permits := permits, rooms := rooms, roster := roster, deadlines := deadlines, pairings := pairings,
                 ports := ports, journal := journal, gapPending := gap }
  journal : s.journalLaw → t.journalLaw

theorem Told.refl (s : State) : Told s s := ⟨⟨s.ports, s.journal, s.gapPending, rfl⟩, id⟩

theorem Told.trans {s t u : State} (h : Told s t) (k : Told t u) : Told s u := by
  obtain ⟨⟨_, _, _, rfl⟩, hj⟩ := h
  obtain ⟨⟨p, j, g, rfl⟩, kj⟩ := k
  exact ⟨⟨p, j, g, rfl⟩, fun x => kj (hj x)⟩

theorem Supervised.refl (s : State) : Supervised s s := ⟨⟨s.roster, s.deadlines, s.ports, s.journal, s.gapPending, rfl⟩, id⟩

theorem Supervised.trans {s t u : State} (h : Supervised s t) (k : Supervised t u) : Supervised s u := by
  obtain ⟨⟨_, _, _, _, _, rfl⟩, hj⟩ := h
  obtain ⟨⟨r, d, p, j, g, rfl⟩, kj⟩ := k
  exact ⟨⟨r, d, p, j, g, rfl⟩, fun x => kj (hj x)⟩

theorem Resolved.refl (s : State) : Resolved s s :=
  ⟨⟨s.permits, s.rooms, s.roster, s.deadlines, s.pairings, s.ports, s.journal, s.gapPending, rfl⟩, id⟩

theorem Resolved.trans {s t u : State} (h : Resolved s t) (k : Resolved t u) : Resolved s u := by
  obtain ⟨⟨_, _, _, _, _, _, _, _, rfl⟩, hj⟩ := h
  obtain ⟨⟨m, x, r, d, q, p, j, g, rfl⟩, kj⟩ := k
  exact ⟨⟨m, x, r, d, q, p, j, g, rfl⟩, fun x => kj (hj x)⟩

theorem Told.supervised {s t : State} (h : Told s t) : Supervised s t := by
  obtain ⟨⟨p, j, g, rfl⟩, hj⟩ := h
  exact ⟨⟨s.roster, s.deadlines, p, j, g, rfl⟩, hj⟩

theorem Supervised.resolved {s t : State} (h : Supervised s t) : Resolved s t := by
  obtain ⟨⟨r, d, p, j, g, rfl⟩, hj⟩ := h
  exact ⟨⟨s.permits, s.rooms, r, d, s.pairings, p, j, g, rfl⟩, hj⟩

theorem Told.resolved {s t : State} (h : Told s t) : Resolved s t := h.supervised.resolved

/-- A fold of operations that each stay within a reflexive and transitive relation stays within it. -/
theorem foldl_within {α : Type} {R : State → State → Prop} (refl : ∀ s, R s s)
    (trans : ∀ {s t u}, R s t → R t u → R s u) {f : State → α → State} (step : ∀ s a, R s (f s a)) (l : List α)
    (s : State) : R s (l.foldl f s) := by
  induction l generalizing s with
  | nil => exact refl s
  | cons a l ih => exact trans (step s a) (ih (f s a))

theorem Told.foldl {α : Type} {f : State → α → State} (step : ∀ s a, Told s (f s a)) (l : List α) (s : State) :
    Told s (l.foldl f s) := foldl_within Told.refl Told.trans step l s

theorem Supervised.foldl {α : Type} {f : State → α → State} (step : ∀ s a, Supervised s (f s a)) (l : List α)
    (s : State) : Supervised s (l.foldl f s) := foldl_within Supervised.refl Supervised.trans step l s

theorem Resolved.foldl {α : Type} {f : State → α → State} (step : ∀ s a, Resolved s (f s a)) (l : List α) (s : State) :
    Resolved s (l.foldl f s) := foldl_within Resolved.refl Resolved.trans step l s

/-! ## The journal, notices and answers -/

/-- A journal within its 256 records stays so (R180). -/
theorem State.write_journalLaw (s : State) (e : JournalEntry) (h : s.journalLaw) : (s.write e).journalLaw := by
  unfold State.journalLaw at *
  rw [State.write_journal]
  split
  · simp only [List.length_append, List.length_cons, List.length_nil]; omega
  · exact h

theorem State.write_told (s : State) (e : JournalEntry) : Told s (s.write e) := by
  refine ⟨⟨s.ports, (s.write e).journal, (s.write e).gapPending, ?_⟩, s.write_journalLaw e⟩
  unfold State.write; split <;> rfl

theorem State.setPort_told (s : State) (p : PortId) (x : Port) : Told s (s.setPort p x) := ⟨⟨_, _, _, rfl⟩, id⟩

theorem State.place_told (s : State) (p : PortId) (i : Item) : Told s (s.place p i) := s.setPort_told p _

theorem State.noticeAt_told (s : State) (r : RoomId) (n : Notice) (d : DoorId) : Told s (s.noticeAt r n d) := by
  unfold State.noticeAt
  split
  · exact Told.refl s
  · split
    · exact s.place_told _ _
    · exact Told.refl s

theorem State.notify_told (s : State) (r : RoomId) (n : Notice) : Told s (s.notify r n) :=
  Told.foldl (fun t d => t.noticeAt_told r n d) _ s

/-- A notice to a room's doors leaves the journal as it is. -/
theorem State.notify_journal (s : State) (r : RoomId) (n : Notice) : (s.notify r n).journal = s.journal := by
  have key : ∀ (l : List DoorId) (t : State), (l.foldl (fun t d => t.noticeAt r n d) t).journal = t.journal := by
    intro l
    induction l with
    | nil => intro t; rfl
    | cons d l ih =>
      intro t
      rw [List.foldl_cons, ih]
      unfold State.noticeAt
      split
      · rfl
      · split <;> rfl
  exact key _ s

theorem State.stageOutputs_told (s : State) (o : Occupant) (st : Stage) : Told s (s.stageOutputs o st) := by
  cases st with
  | within => exact Told.refl s
  | due => exact s.notify_told _ _
  | overstay => exact (s.notify_told _ _).trans (State.write_told _ _)
  | alarm => exact (s.notify_told _ _).trans (State.write_told _ _)

/-! ## Stays -/

theorem State.updateRecord_supervised (s : State) (c : Credential) (f : Occupant → Occupant) :
    Supervised s (s.updateRecord c f) := ⟨⟨_, _, _, _, _, rfl⟩, id⟩

theorem State.arm_supervised (s : State) (o : Owner) (t : EstateTime) : Supervised s (s.arm o t) :=
  ⟨⟨_, _, _, _, _, rfl⟩, id⟩

theorem State.cancel_supervised (s : State) (o : Owner) : Supervised s (s.cancel o) := ⟨⟨_, _, _, _, _, rfl⟩, id⟩

theorem State.cancelRecord_supervised (s : State) (c : Credential) : Supervised s (s.cancelRecord c) :=
  ⟨⟨_, _, _, _, _, rfl⟩, id⟩

theorem State.unlist_supervised (s : State) (c : Credential) : Supervised s (s.unlist c) := ⟨⟨_, _, _, _, _, rfl⟩, id⟩

theorem State.addCover_supervised (s : State) (a b : Credential) : Supervised s (s.addCover a b) :=
  ⟨⟨_, _, _, _, _, rfl⟩, id⟩

theorem State.rearmStay_supervised (s : State) (c : Credential) : Supervised s (s.rearmStay c) := by
  unfold State.rearmStay
  split
  · exact Supervised.refl s
  · split
    · exact s.arm_supervised _ _
    · exact s.cancel_supervised _

theorem State.takeStage_supervised (s : State) (o : Occupant) (st : Stage) : Supervised s (s.takeStage o st) := by
  unfold State.takeStage
  split
  · exact (s.updateRecord_supervised _ _).trans (State.stageOutputs_told _ _ _).supervised
  · exact s.updateRecord_supervised _ _

theorem State.stayTaken_supervised (s : State) (c : Credential) : Supervised s (s.stayTaken c) := by
  unfold State.stayTaken
  split
  · exact Supervised.refl s
  · split
    · exact (s.takeStage_supervised _ _).trans (State.rearmStay_supervised _ _)
    · exact s.rearmStay_supervised _

theorem State.recomputeStage_supervised (s : State) (c : Credential) : Supervised s (s.recomputeStage c) := by
  unfold State.recomputeStage
  split
  · exact Supervised.refl s
  · exact (s.takeStage_supervised _ _).trans (State.rearmStay_supervised _ _)

theorem State.curtail_supervised (s : State) (r : CurtailReason) (g : Nat) (c : Credential) :
    Supervised s (s.curtail r g c) := by
  unfold State.curtail
  split
  · exact Supervised.refl s
  · split
    · dsimp only
      split
      · exact ((s.updateRecord_supervised _ _).trans (State.notify_told _ _ _).supervised).trans
          (State.write_told _ _).supervised
      · exact (((s.updateRecord_supervised _ _).trans (State.notify_told _ _ _).supervised).trans
          (State.write_told _ _).supervised).trans (State.recomputeStage_supervised _ _)
    · exact Supervised.refl s

/-- An escort a released contractor is reassigned to stands in the room, has spare cover, and never is the one that lost it
(R121, R122). -/
theorem State.newEscort_some {s : State} {lost : Option Credential} {r : RoomId} {e : Occupant}
    (h : s.newEscort lost r = some e) : e ∈ s.inRoom r ∧ 0 < s.spareCover e ∧ lost ≠ some e.cred := by
  have spare := List.find?_some h
  simp only [Bool.and_eq_true, decide_eq_true_eq, bne_iff_ne] at spare
  exact ⟨List.mem_of_find?_eq_some h, spare⟩

theorem State.escortLossOne_supervised (lost : Option Credential) (s : State) (c : Credential) :
    Supervised s (State.escortLossOne lost s c) := by
  unfold State.escortLossOne
  split
  · exact Supervised.refl s
  · split
    · exact s.updateRecord_supervised _ _
    · exact Supervised.refl s
    all_goals
      refine Supervised.trans (s.updateRecord_supervised c fun x => { x with coveredBy := none }) ?_
      dsimp only
      split
      · exact (State.addCover_supervised _ _ _).trans (State.write_told _ _).supervised
      · exact ((State.updateRecord_supervised _ _ _).trans (State.write_told _ _).supervised).trans
          (State.curtail_supervised _ _ _ _)

theorem State.escortLoss_supervised (s : State) (lost : Option Credential) (l : List Credential) :
    Supervised s (s.escortLoss lost l) := Supervised.foldl (fun t c => t.escortLossOne_supervised lost c) l s

theorem State.partnerLoss_supervised (s : State) (c : Credential) (o : Occupant) : Supervised s (s.partnerLoss c o) :=
  (s.write_told _).supervised.trans (State.curtail_supervised _ _ _ _)

theorem State.armCheck_supervised (s : State) (o : Occupant) : Supervised s (s.armCheck o) := s.arm_supervised _ _

theorem State.becomeInside_supervised (s : State) (o : Occupant) : Supervised s (s.becomeInside o) := by
  unfold State.becomeInside
  dsimp only
  split
  · exact ((s.updateRecord_supervised _ _).trans (State.cancel_supervised _ _)).trans (State.armCheck_supervised _ _)
  · exact (s.updateRecord_supervised _ _).trans (State.cancel_supervised _ _)

theorem State.loneRecovered_supervised (s : State) (o : Occupant) (b : Bool) : Supervised s (s.loneRecovered o b) :=
  ((s.updateRecord_supervised _ _).trans (State.write_told _ _).supervised).trans (State.notify_told _ _ _).supervised

theorem State.endSolitude_supervised (s : State) (l : List Occupant) : Supervised s (s.endSolitude l) := by
  unfold State.endSolitude
  split
  · split
    · exact (s.cancel_supervised _).trans (State.loneRecovered_supervised _ _ _)
    · exact s.cancel_supervised _
  · exact Supervised.refl s

theorem State.removeRecord_supervised (s : State) (o : Occupant) : Supervised s (s.removeRecord o) :=
  ⟨⟨_, _, _, _, _, rfl⟩, id⟩

theorem State.lastOneEffects_supervised (s : State) (o : Occupant) : Supervised s (s.lastOneEffects o) := by
  unfold State.lastOneEffects
  split
  · rename_i x _
    have first : Supervised s (if (s.room o.room).settings.presence = .paired then s.partnerLoss o.cred x else s) := by
      split
      · exact s.partnerLoss_supervised _ _
      · exact Supervised.refl s
    refine first.trans ?_
    dsimp only
    generalize (if (s.room o.room).settings.presence = .paired then s.partnerLoss o.cred x else s) = t
    split
    · exact t.armCheck_supervised x
    · exact Supervised.refl t
  · exact Supervised.refl s

theorem State.removalEffects_supervised (s : State) (o : Occupant) : Supervised s (s.removalEffects o) := by
  unfold State.removalEffects
  split
  · exact Supervised.refl s
  · exact Supervised.foldl (fun t c => t.updateRecord_supervised c _) _ s
  all_goals exact (s.escortLoss_supervised _ _).trans (State.lastOneEffects_supervised _ _)

theorem State.coverByRoom_supervised (s : State) (r : RoomId) (c : Credential) : Supervised s (s.coverByRoom r c) := by
  unfold State.coverByRoom
  split
  · exact s.addCover_supervised _ _
  · exact Supervised.refl s

theorem State.adoptOne_supervised (e : Credential) (s : State) (o : Occupant) : Supervised s (State.adoptOne e s o) := by
  unfold State.adoptOne
  split
  · exact Supervised.refl s
  · split
    · exact (s.addCover_supervised _ _).trans (State.updateRecord_supervised _ _ _)
    · exact Supervised.refl s

theorem State.adopt_supervised (s : State) (r : RoomId) (e : Credential) : Supervised s (s.adopt r e) :=
  Supervised.foldl (fun t o => t.adoptOne_supervised e o) _ s

theorem State.coverAlone_supervised (s : State) (r : RoomId) (c : Credential) (p : Permit) :
    Supervised s (s.coverAlone r c p) := by
  unfold State.coverAlone
  split
  · exact s.adopt_supervised r c
  · split
    · exact s.coverByRoom_supervised r c
    · exact Supervised.refl s

theorem State.addOccupant_supervised (s : State) (o : Occupant) : Supervised s (s.addOccupant o) :=
  ⟨⟨_, _, _, _, _, rfl⟩, id⟩

theorem State.armGrant_supervised (s : State) (c : Credential) : Supervised s (s.armGrant c) :=
  (s.arm_supervised _ _).trans (State.rearmStay_supervised _ _)

/-- A grant changes the roster, the deadline queue, outbound queues and the journal alone (R77). -/
theorem State.grantAlone_supervised (s : State) (p : PortId) (r : RoomId) (d : DoorId) (c : Credential) (m : Permit)
    (a : Nat) : Supervised s (s.grantAlone p r d c m a) :=
  (((((s.addOccupant_supervised _).trans (State.coverAlone_supervised _ _ _ _)).trans
    (State.armGrant_supervised _ _)).trans (State.place_told _ _ _).supervised).trans
      (State.write_told _ _).supervised).trans (State.endSolitude_supervised _ _)

/-! ## Pairings, charging, rooms -/

theorem State.updatePermit_resolved (s : State) (n : PermitNo) (f : Permit → Permit) : Resolved s (s.updatePermit n f) :=
  ⟨⟨_, _, _, _, _, _, _, _, rfl⟩, id⟩

theorem State.setRoom_resolved (s : State) (r : RoomId) (x : Room) : Resolved s (s.setRoom r x) :=
  ⟨⟨_, _, _, _, _, _, _, _, rfl⟩, id⟩

theorem State.clearPairing_resolved (s : State) (d : DoorId) : Resolved s (s.clearPairing d) :=
  ⟨⟨_, _, _, _, _, _, _, _, rfl⟩, id⟩

theorem State.endPairing_resolved (s : State) (r : Reason) (n : Option PermitNo) (d : DoorId) :
    Resolved s (s.endPairing r n d) := by
  unfold State.endPairing
  split
  · exact Resolved.refl s
  · refine (s.clearPairing_resolved d).trans ?_
    dsimp only
    split
    · exact (State.write_told _ _).resolved
    · exact (State.place_told _ _ _).resolved.trans (State.write_told _ _).resolved

theorem State.dropPairing_resolved (s : State) (d : DoorId) : Resolved s (s.dropPairing d) := by
  unfold State.dropPairing
  split
  · exact Resolved.refl s
  · exact (s.clearPairing_resolved d).trans (State.write_told _ _).resolved

theorem State.endRoomPairings_resolved (s : State) (r : RoomId) (w : Reason) : Resolved s (s.endRoomPairings r w) :=
  Resolved.foldl (fun t d => t.endPairing_resolved w none d) _ s

theorem State.cancelPairingOf_resolved (s : State) (c : Credential) : Resolved s (s.cancelPairingOf c) := by
  unfold State.cancelPairingOf
  split
  · exact Resolved.refl s
  · exact s.endPairing_resolved _ _ _

theorem State.charge_resolved (s : State) (n : PermitNo) (k : Nat) : Resolved s (s.charge n k) :=
  s.updatePermit_resolved _ _

/-- The end of a stay changes no other field, where its answer does not (R97, R100, R101, R102). -/
theorem State.endStay_resolved (s : State) (o : Occupant) (entry : Nat → JournalEntry) (answer : Nat → State → State)
    (h : ∀ k t, Resolved t (answer k t)) : Resolved s (s.endStay o entry answer) :=
  ((((s.removeRecord_supervised o).resolved.trans (State.charge_resolved _ _ _)).trans
    (State.write_told _ _).resolved).trans (h _ _)).trans (State.removalEffects_supervised _ _).resolved

theorem State.musterReturn_resolved (s : State) (r : RoomId) : Resolved s (s.musterReturn r) := by
  unfold State.musterReturn
  split
  · exact ((s.setRoom_resolved _ _).trans (State.write_told _ _).resolved).trans (State.notify_told _ _ _).resolved
  · exact Resolved.refl s

/-- Accounting a record changes no other field, where its answer does not (R157). -/
theorem State.accountRecord_resolved (s : State) (o : Occupant) (e : EstateTime) (door : Option Byte) (d : LeaveDetail)
    (src : Option Source) (answer : Nat → State → State) (h : ∀ k t, Resolved t (answer k t)) :
    Resolved s (s.accountRecord o e door d src answer) :=
  ((((s.removeRecord_supervised o).resolved.trans (State.charge_resolved _ _ _)).trans
    (State.write_told _ _).resolved).trans (h _ _)).trans (State.musterReturn_resolved _ _)

theorem State.accountAll_resolved (s : State) (src : Source) (l : List Occupant) : Resolved s (s.accountAll src l) :=
  Resolved.foldl (fun t o => t.accountRecord_resolved o _ _ _ _ _ fun _ u => Resolved.refl u) l s

theorem State.removeUnused_resolved (s : State) (o : Occupant) : Resolved s (s.removeUnused o) :=
  (((s.removeRecord_supervised o).trans (State.write_told _ _).supervised).trans
    (State.removalEffects_supervised _ _)).resolved.trans (State.musterReturn_resolved _ _)

/-! ## Admission -/

theorem State.refusePresentation_told (s : State) (p : PortId) (door : Byte) (room : Option RoomId) (c : Credential)
    (w : Reason) (n : Option PermitNo) : Told s (s.refusePresentation p door room c w n) :=
  (s.place_told _ _).trans (State.write_told _ _)

theorem State.fillPairing_resolved (s : State) (d : DoorId) (c : Credential) (n : Need) :
    Resolved s (s.fillPairing d c n) := ⟨⟨_, _, _, _, _, _, _, _, rfl⟩, id⟩

theorem State.aloneAtDoor_resolved (s : State) (p : PortId) (r : RoomId) (d : DoorId) (c : Credential) (m : Permit)
    (a : Nat) : Resolved s (s.aloneAtDoor p r d c m a) := by
  unfold State.aloneAtDoor
  dsimp only
  split
  · exact (s.fillPairing_resolved _ _ _).trans (State.place_told _ _ _).resolved
  · exact (s.grantAlone_supervised p r d c m a).resolved

theorem State.coverInPair_supervised (s : State) (r : RoomId) (c : Credential) (p : Permit) (e : Credential)
    (q : Permit) : Supervised s (s.coverInPair r c p e q) := by
  unfold State.coverInPair
  split
  · split
    · exact s.addCover_supervised _ _
    · exact s.coverByRoom_supervised _ _
  · exact Supervised.refl s

theorem State.adoptInPair_supervised (s : State) (r : RoomId) (c : Credential) (p : Permit) :
    Supervised s (s.adoptInPair r c p) := by
  unfold State.adoptInPair
  split
  · exact s.adopt_supervised r c
  · exact Supervised.refl s

/-- A pair grant changes the pairing slot and what a grant changes (R86). -/
theorem State.grantPair_resolved (s : State) (p : PortId) (r : RoomId) (d : DoorId) (c1 : Credential) (p1 : Permit)
    (a1 : Nat) (c2 : Credential) (p2 : Permit) (a2 : Nat) : Resolved s (s.grantPair p r d c1 p1 a1 c2 p2 a2) :=
  (s.clearPairing_resolved d).trans
    ((((((((((((State.addOccupant_supervised _ _).trans (State.addOccupant_supervised _ _)).trans
      (State.coverInPair_supervised _ _ _ _ _ _)).trans (State.coverInPair_supervised _ _ _ _ _ _)).trans
      (State.adoptInPair_supervised _ _ _ _)).trans (State.adoptInPair_supervised _ _ _ _)).trans
      (State.armGrant_supervised _ _)).trans (State.armGrant_supervised _ _)).trans
      (State.place_told _ _ _).supervised).trans (State.place_told _ _ _).supervised).trans
      ((State.write_told _ _).supervised.trans (State.write_told _ _).supervised)).trans
      (State.endSolitude_supervised _ _)).resolved

theorem State.admissionNeeds_resolved (s : State) (p : PortId) (r : RoomId) (d : DoorId) (c : Credential) (m : Permit)
    (a : Nat) : Resolved s (s.admissionNeeds p r d c m a) := by
  unfold State.admissionNeeds
  split
  · exact s.aloneAtDoor_resolved p r d c m a
  · split
    · exact (s.endPairing_resolved _ _ _).trans (State.aloneAtDoor_resolved _ _ _ _ _ _ _)
    · split
      · exact (s.refusePresentation_told _ _ _ _ _ _).resolved
      · exact s.grantPair_resolved _ _ _ _ _ _ _ _ _

/-- All that a second presenter's refusal can do to the slot of its door: nothing (R83), or, where both presenters are
refused ISOLATION now and the free value has it so, its end with REFUSE ISOLATION (R141). -/
theorem State.firstAtRefusal_cases (s : State) (ends : Bool) (r : RoomId) (d : DoorId) (reason : Reason) :
    s.firstAtRefusal ends r d reason = s ∨
      (∃ q, s.pairing d = some q ∧ reason = .isolation ∧ s.decidePerson r q.cred = .refused .isolation none ∧
        ends = true ∧ s.firstAtRefusal ends r d reason = s.endPairing .isolation none d) := by
  unfold State.firstAtRefusal
  split
  · exact .inl rfl
  · next q _ =>
    by_cases h : reason = .isolation ∧ s.decidePerson r q.cred = .refused .isolation none ∧ ends = true
    · exact .inr ⟨q, ‹_›, h.1, h.2.1, h.2.2, if_pos h⟩
    · exact .inl (if_neg h)

/-- A refusal other than ISOLATION leaves a waiting first presenter's slot as it was (R83). -/
theorem State.firstAtRefusal_of_ne (s : State) (ends : Bool) (r : RoomId) (d : DoorId) {reason : Reason}
    (h : reason ≠ .isolation) : s.firstAtRefusal ends r d reason = s := by
  obtain h' | ⟨_, _, h', _⟩ := s.firstAtRefusal_cases ends r d reason
  · exact h'
  · exact absurd h' h

theorem State.firstAtRefusal_resolved (s : State) (ends : Bool) (r : RoomId) (d : DoorId) (reason : Reason) :
    Resolved s (s.firstAtRefusal ends r d reason) := by
  obtain h | ⟨_, _, _, _, _, h⟩ := s.firstAtRefusal_cases ends r d reason <;> rw [h]
  · exact Resolved.refl s
  · exact s.endPairing_resolved _ _ _

/-- What steps 8 to 14 can do (R60): refuse the presentation, or, every step before passed, go to step 14. -/
theorem State.admissionSelect_cases (s : State) (p : PortId) (r : RoomId) (d : DoorId) (c : Credential) :
    (∃ reason n, s.admissionSelect p r d c =
      (s.firstAtRefusal Config.isolationEndsPairing r d reason).refusePresentation p (doorByte d) (some r) c reason n) ∨
      ∃ m a, s.decidePerson r c = .chosen m a ∧ s.presentCount r < (s.room r).settings.maxOccupancy ∧
        s.roster.length < Config.rosterMax ∧ s.admissionSelect p r d c = s.admissionNeeds p r d c m a := by
  unfold State.admissionSelect
  split
  · exact .inl ⟨_, _, rfl⟩
  · next m a chosen =>
    split
    · exact .inl ⟨.roomFull, none, by rw [s.firstAtRefusal_of_ne _ _ _ (by decide)]⟩
    · next room =>
      split
      · exact .inl ⟨.rosterFull, none, by rw [s.firstAtRefusal_of_ne _ _ _ (by decide)]⟩
      · next roster => exact .inr ⟨m, a, chosen, Nat.lt_of_not_le room, Nat.lt_of_not_le roster, rfl⟩

/-- A refusal leaves every slot with its need and presentation time, and every PAIR entry, as it was (R83). -/
theorem State.refusePresentation_keeps_pairings (s : State) (p : PortId) (door : Byte) (room : Option RoomId)
    (c : Credential) (w : Reason) (n : Option PermitNo) :
    (s.refusePresentation p door room c w n).pairings = s.pairings ∧
      (s.refusePresentation p door room c w n).deadlines = s.deadlines := by
  obtain ⟨_, _, _, h⟩ := (s.refusePresentation_told p door room c w n).frame
  rw [h]
  exact ⟨rfl, rfl⟩

theorem State.admissionSelect_resolved (s : State) (p : PortId) (r : RoomId) (d : DoorId) (c : Credential) :
    Resolved s (s.admissionSelect p r d c) := by
  obtain ⟨_, _, h⟩ | ⟨_, _, _, _, _, h⟩ := s.admissionSelect_cases p r d c <;> rw [h]
  · exact (s.firstAtRefusal_resolved _ _ _ _).trans (State.refusePresentation_told _ _ _ _ _ _ _).resolved
  · exact s.admissionNeeds_resolved _ _ _ _ _ _

theorem State.admissionKnown_resolved (s : State) (p : PortId) (r : RoomId) (d : DoorId) (c : Credential) :
    Resolved s (s.admissionKnown p r d c) := by
  unfold State.admissionKnown
  split
  · exact (s.refusePresentation_told _ _ _ _ _ _).resolved
  · split
    · exact s.admissionSelect_resolved _ _ _ _
    · split
      · exact (s.endStay_resolved _ _ _ fun _ t => Resolved.refl t).trans (State.admissionSelect_resolved _ _ _ _ _)
      · exact (s.refusePresentation_told _ _ _ _ _ _).resolved

theorem State.admissionMode_resolved (s : State) (p : PortId) (r : RoomId) (d : DoorId) (c : Credential) :
    Resolved s (s.admissionMode p r d c) := by
  unfold State.admissionMode
  split
  iterate 3 exact (s.refusePresentation_told _ _ _ _ _ _).resolved
  unfold State.admissionPaired
  split
  · exact (s.refusePresentation_told _ _ _ _ _ _).resolved
  · exact (s.cancelPairingOf_resolved c).trans (State.admissionKnown_resolved _ _ _ _ _)

theorem State.accountPresenter_resolved (s : State) (d : DoorId) (c : Credential) :
    Resolved s (s.accountPresenter d c) := by
  unfold State.accountPresenter
  split
  · exact Resolved.refl s
  · split
    · exact s.accountRecord_resolved _ _ _ _ _ _ fun _ t => Resolved.refl t
    · exact Resolved.refl s

/-- An IN presentation changes the permit and room tables, the roster, the deadline queue, pending pairings, outbound
queues and the journal, and nothing else of the part (R60). -/
theorem State.admission_resolved (s : State) (p : PortId) (door : Byte) (c : Credential) :
    Resolved s (s.admission p door c) := by
  unfold State.admission
  split
  · exact (s.refusePresentation_told _ _ _ _ _ _).resolved
  · split
    · exact (s.accountPresenter_resolved _ _).trans (State.admissionMode_resolved _ _ _ _ _)
    · exact (s.refusePresentation_told _ _ _ _ _ _).resolved

/-- No entry is taken while the second's change to LOST is owed (R45). -/
theorem State.takeOwned_lostOwed (s : State) (o : Owner) (h : s.clock.lostOwed = true) : s.takeOwned o = s := by
  simp [State.takeOwned, h]

end Sys2Proof.Machine
end

