-- ==== Sys2Proof/Laws/Store.lean ====
section
/-! SUPPORT. The permit store: its slots' canonical form is kept by every operation on them, and what the engine may
change (R182, R183). -/

namespace Sys2Proof.Machine

/-! ## The canonical form of the slots -/

/-- The canonical form said of the slot numbers: strictly rising, inside the main area. -/
theorem slotsWf_iff (l : List (Nat × Slot)) :
    slotsWf l = true ↔ (l.map (·.1)).Pairwise (· < ·) ∧ ∀ x ∈ l, x.1 < Config.storeSlots := by
  induction l with
  | nil => simp [slotsWf]
  | cons x rest ih =>
    obtain ⟨a, v⟩ := x
    cases rest with
    | nil => simp [slotsWf]
    | cons y rest =>
      obtain ⟨b, w⟩ := y
      simp only [slotsWf, Bool.and_eq_true, decide_eq_true_eq, ih, List.map_cons, List.pairwise_cons, List.mem_cons,
        forall_eq_or_imp, List.mem_map, forall_exists_index, and_imp, forall_apply_eq_imp_iff₂]
      constructor
      · rintro ⟨hab, ⟨hb, hp⟩, hbn, hr⟩
        exact ⟨⟨⟨hab, fun c hc => Nat.lt_trans hab (hb c hc)⟩, hb, hp⟩, Nat.lt_trans hab hbn, hbn, hr⟩
      · rintro ⟨⟨⟨hab, _⟩, hb, hp⟩, _, hbn, hr⟩
        exact ⟨hab, ⟨hb, hp⟩, hbn, hr⟩

/-- Every slot of a list after a put is one of the list or the one put. -/
theorem mem_putSlot {addr : Nat} {v : Slot} {l : List (Nat × Slot)} {x : Nat × Slot} (h : x ∈ putSlot addr v l) :
    x = (addr, v) ∨ x ∈ l := by
  induction l with
  | nil => exact .inl (List.mem_singleton.mp h)
  | cons y rest ih =>
    obtain ⟨a, w⟩ := y
    unfold putSlot at h
    split at h
    · rcases List.mem_cons.mp h with h | h
      · exact .inr (h ▸ List.mem_cons_self)
      · exact (ih h).imp_right (List.mem_cons_of_mem _)
    · split at h
      · exact (List.mem_cons.mp h).imp_right (List.mem_cons_of_mem _)
      · exact (List.mem_cons.mp h).imp_right id

/-- Programming or retiring a slot of the main area keeps the canonical form. -/
theorem putSlot_slotsWf {addr : Nat} (v : Slot) {l : List (Nat × Slot)} (ha : addr < Config.storeSlots)
    (h : slotsWf l = true) : slotsWf (putSlot addr v l) = true := by
  rw [slotsWf_iff] at *
  obtain ⟨hp, hr⟩ := h
  refine ⟨?_, fun x hx => (mem_putSlot hx).elim (fun e => e ▸ ha) (hr x)⟩
  clear hr
  induction l with
  | nil => simp [putSlot]
  | cons y rest ih =>
    obtain ⟨a, w⟩ := y
    rw [List.map_cons, List.pairwise_cons] at hp
    unfold putSlot
    split
    · rename_i hlt
      rw [List.map_cons, List.pairwise_cons]
      refine ⟨fun b hb => ?_, ih hp.2⟩
      obtain ⟨x, hx, rfl⟩ := List.mem_map.mp hb
      rcases mem_putSlot hx with rfl | hx
      · exact hlt
      · exact hp.1 _ (List.mem_map_of_mem hx)
    · split
      · rename_i _ he
        rw [List.map_cons, List.pairwise_cons]
        exact ⟨fun b hb => he ▸ hp.1 b hb, hp.2⟩
      · rename_i hn he
        rw [List.map_cons, List.map_cons, List.pairwise_cons, List.pairwise_cons]
        refine ⟨fun b hb => ?_, hp⟩
        have hlt : addr < a := by omega
        rcases List.mem_cons.mp hb with rfl | hb
        · exact hlt
        · exact Nat.lt_trans hlt (hp.1 b hb)

/-- A page's erase keeps the canonical form. -/
theorem erasePage_slotsWf (page : Nat) {l : List (Nat × Slot)} (h : slotsWf l = true) :
    slotsWf (erasePage page l) = true := by
  rw [slotsWf_iff] at *
  exact ⟨h.1.sublist (List.filter_sublist.map _), fun x hx => h.2 x (List.mem_filter.mp hx).1⟩

/-- Reading the store after a device reset keeps the canonical form (R185). -/
theorem Store.afterRead_slotsWf {st : Store} (h : slotsWf st.slots = true) : slotsWf st.afterRead.slots = true := h

/-- What start-up has to retire lies in the main area (R185). -/
theorem Store.staleSlots_lt {st : Store} (h : slotsWf st.slots = true) {a : Nat} (ha : a ∈ st.staleSlots) :
    a < Config.storeSlots := by
  obtain ⟨x, hx, rfl⟩ := List.mem_map.mp ha
  exact ((slotsWf_iff _).mp h).2 x (List.mem_filter.mp (List.mem_filter.mp hx).1).1

/-- The store right after the first power-on has the canonical form. -/
theorem reset_slotsWf : slotsWf State.reset.store.slots = true := rfl

/-- The slot just programmed or retired reads as what was put. -/
theorem slotAt_putSlot_self (addr : Nat) (v : Slot) (l : List (Nat × Slot)) : slotAt (putSlot addr v l) addr = some v := by
  induction l with
  | nil => simp [putSlot, slotAt]
  | cons y rest ih =>
    obtain ⟨a, w⟩ := y
    unfold putSlot
    split
    · rename_i h
      simp only [slotAt, if_neg (Nat.ne_of_lt h), ih]
    · split <;> simp [slotAt]

/-- Every other slot reads as before. -/
theorem slotAt_putSlot_other {addr b : Nat} (v : Slot) (l : List (Nat × Slot)) (h : addr ≠ b) :
    slotAt (putSlot addr v l) b = slotAt l b := by
  induction l with
  | nil => simp [putSlot, slotAt, h]
  | cons y rest ih =>
    obtain ⟨a, w⟩ := y
    unfold putSlot
    split
    · simp only [slotAt, ih]
    · split
      · rename_i _ he
        subst he
        simp [slotAt, h]
      · simp [slotAt, h]

/-- An ERASED slot found for a program lies in the main area. -/
theorem Store.lowestErased_lt {st : Store} {a : Nat} (h : st.lowestErased = some a) : a < Config.storeSlots := by
  have := List.mem_of_find?_eq_some h
  exact List.mem_range.mp this

/-! ## What the engine may change -/

/-- A permit record but for its store-pending flag. -/
def Permit.shown (p : Permit) : Permit := { p with storePending := false }

/-- Only store-pending flags, the unsent replies, the batch machine, the store, the snapshot area and the count of free
values may differ, and replies are only added (R175, R182). -/
structure Stored (s t : State) : Prop where
  frame : ∃ permits replies batch store snap n,
    t = { s with permits := permits, link := { s.link with replies := replies }, batch := batch, store := store,
                 snap := snap, freeCount := n }
  shown : t.permits.map Permit.shown = s.permits.map Permit.shown
  replies : ∃ more, t.link.replies = s.link.replies ++ more

theorem Stored.refl (s : State) : Stored s s :=
  ⟨⟨s.permits, s.link.replies, s.batch, s.store, s.snap, s.freeCount, rfl⟩, rfl, [], (List.append_nil _).symm⟩

theorem Stored.trans {s t u : State} (h : Stored s t) (k : Stored t u) : Stored s u := by
  obtain ⟨⟨_, _, _, _, _, _, rfl⟩, hs, m, hm⟩ := h
  obtain ⟨⟨a, b, c, d, e, f, rfl⟩, ks, n, kn⟩ := k
  refine ⟨⟨a, b, c, d, e, f, rfl⟩, ks.trans hs, m ++ n, ?_⟩
  rw [kn, hm, List.append_assoc]

/-- A change of the store, the snapshot area and the count of free values alone. -/
theorem stored_of_flash (s : State) (st : Store) (sn : SnapArea) (n : Nat) :
    Stored s { s with store := st, snap := sn, freeCount := n } :=
  ⟨⟨s.permits, s.link.replies, s.batch, st, sn, n, rfl⟩, rfl, [], (List.append_nil _).symm⟩

theorem State.clearPending_stored (s : State) (k : Key) : Stored s (s.clearPending k) := by
  unfold State.clearPending
  split
  · split
    · exact Stored.refl s
    · refine ⟨⟨_, s.link.replies, s.batch, s.store, s.snap, s.freeCount, rfl⟩, ?_, [], (List.append_nil _).symm⟩
      rw [State.updatePermit_permits, List.map_map]
      refine List.map_congr_left fun p _ => ?_
      simp only [Function.comp_apply]
      split <;> rfl
  · exact Stored.refl s
  · exact Stored.refl s

theorem State.refillQueue_stored (s : State) : Stored s s.refillQueue :=
  ⟨⟨s.permits, s.link.replies, _, _, s.snap, s.freeCount, rfl⟩, rfl, [], (List.append_nil _).symm⟩

theorem State.batchWriteDone_stored (s : State) : Stored s s.batchWriteDone := by
  unfold State.batchWriteDone
  split
  · exact ⟨⟨s.permits, _, .idle, s.store, s.snap, s.freeCount, rfl⟩, rfl, _, rfl⟩
  · exact ⟨⟨s.permits, s.link.replies, _, s.store, s.snap, s.freeCount, rfl⟩, rfl, [], (List.append_nil _).symm⟩

/-- The completion of the head entry (R182, R175). -/
theorem State.entryDone_stored (s : State) : Stored s s.entryDone := by
  unfold State.entryDone
  split
  · exact Stored.refl s
  · rename_i e rest _
    refine (stored_of_flash s { s.store with queue := rest, headPrevious := none } s.snap s.freeCount).trans ?_
    refine (State.clearPending_stored _ e.key).trans ?_
    dsimp only
    split
    · exact (State.batchWriteDone_stored _).trans (State.refillQueue_stored _)
    · exact State.refillQueue_stored _

theorem State.startOp_stored (s : State) (op : FlashOp) : Stored s (s.startOp op) := stored_of_flash s _ s.snap s.freeCount

theorem State.startSnapErase_stored (s : State) : Stored s s.startSnapErase := by
  unfold State.startSnapErase
  split
  · split
    · exact s.startOp_stored _
    · exact Stored.refl s
  · exact Stored.refl s

theorem State.serveQueue_stored (n : Nat) (s : State) : Stored s (s.serveQueue n) := by
  induction n generalizing s with
  | zero => exact Stored.refl s
  | succ n ih =>
    unfold State.serveQueue
    split
    · exact s.startSnapErase_stored
    · split
      · split
        · exact s.startOp_stored _
        · split
          · exact s.startOp_stored _
          · exact s.startSnapErase_stored
      · split
        · exact s.startOp_stored _
        · exact s.entryDone_stored.trans (ih _)

theorem State.startSnapshotOp_stored {s t : State} (h : s.startSnapshotOp = some t) : Stored s t := by
  unfold State.startSnapshotOp at h
  split at h
  · cases h
  · cases h; exact stored_of_flash s _ _ s.freeCount

theorem State.startCopy_stored {s t : State} {job : Compaction} (h : s.startCopy job = some t) : Stored s t := by
  unfold State.startCopy at h
  dsimp only at h
  split at h
  · cases h; exact stored_of_flash s _ s.snap _
  · cases h

theorem State.startCompactionOp_stored {s t : State} (h : s.startCompactionOp = some t) : Stored s t := by
  unfold State.startCompactionOp at h
  split at h
  · split at h
    · exact State.startCopy_stored h
    · split at h <;> cases h <;> exact s.startOp_stored _
  · split at h
    · dsimp only at h
      have first := stored_of_flash s { s.store with compaction := some s.store.nextPage } s.snap s.freeCount
      split at h
      · exact first.trans (State.startCopy_stored h)
      · split at h <;> cases h <;> exact first.trans (State.startOp_stored _ _)
    · cases h

/-- Start-up's flash work changes the store and the snapshot area alone (R185, R186). -/
theorem State.serveStartUp_stored (s : State) : Stored s s.serveStartUp := by
  unfold State.serveStartUp
  split
  · exact stored_of_flash s _ s.snap s.freeCount
  · split
    · exact stored_of_flash s _ _ s.freeCount
    · exact Stored.refl s

/-- A free engine taking its next operation (R183). -/
theorem State.engineNext_stored (s : State) : Stored s s.engineNext := by
  unfold State.engineNext
  split
  · exact Stored.refl s
  · split
    · exact s.serveStartUp_stored
    · cases h : s.startSnapshotOp with
      | none => exact Stored.refl s
      | some t => exact State.startSnapshotOp_stored h
    · split
      · rename_i h; exact State.startSnapshotOp_stored h
      · split
        · rename_i h; exact State.startCompactionOp_stored h
        · exact State.serveQueue_stored _ s

/-- A write queued (R182). -/
theorem State.queueWrite_stored (s : State) (job : WriteJob) : Stored s (s.queueWrite job) :=
  (stored_of_flash s _ s.snap s.freeCount).trans (State.engineNext_stored _)

theorem State.opDone_stored (s : State) (op : FlashOp) : Stored s (s.opDone op) := by
  cases op with
  | program addr d seq =>
    unfold State.opDone
    dsimp only
    have first : Stored s (s.programSlot addr d seq) := stored_of_flash s _ s.snap s.freeCount
    split
    · exact first.trans (State.entryDone_stored _)
    · exact first.trans (stored_of_flash _ _ _ _)
  | retire addr => exact (stored_of_flash s _ s.snap s.freeCount).trans (State.entryDone_stored _)
  | retireStale addr => exact stored_of_flash s _ s.snap s.freeCount
  | copy src dst d seq =>
    unfold State.opDone
    dsimp only
    have first : Stored s (s.programSlot dst d seq) := stored_of_flash s _ s.snap s.freeCount
    split
    · exact first.trans (stored_of_flash _ _ _ _)
    · exact first
  | mark page => exact stored_of_flash s _ s.snap s.freeCount
  | erase page => exact stored_of_flash s _ s.snap s.freeCount
  | snapProgram sn => exact stored_of_flash s s.store _ s.freeCount
  | snapValid => exact stored_of_flash s s.store _ s.freeCount
  | snapConsumed => exact stored_of_flash s s.store _ s.freeCount
  | snapErase k =>
    unfold State.opDone
    dsimp only
    split <;> exact stored_of_flash s s.store _ s.freeCount

/-- An operation's completion and the next one's start (R183). -/
theorem State.flashComplete_stored (s : State) : Stored s s.flashComplete := by
  unfold State.flashComplete
  split
  · exact Stored.refl s
  · exact ((stored_of_flash s _ s.snap s.freeCount).trans (State.opDone_stored _ _)).trans (State.engineNext_stored _)

/-- A retirement of the write queue that a device reset cuts short has not been made, whatever the free value (R7, R26). -/
theorem cutOp_retire (took : Bool) (st : Store) (sn : SnapArea) (a : Nat) (h : st.engine = some (.retire a)) :
    cutOp took st sn = (st, sn) := by
  simp [cutOp, h]

end Sys2Proof.Machine
end

