-- ==== Sys2Proof/Tests/Slice0.lean ====
section
/-! SUPPORT. The model's own tests: ill-formed commands that each check of `Instr.wf` refuses, single steps whose expected
results are the manual's worked examples and tables, and a witness for the hypotheses of each statement. -/

namespace Sys2Proof.Tests

set_option Elab.async false

open Sys2Proof.Machine Sys2Proof.Claims

/-! ## Helpers: a small floor -/

/-- A room in use: IN_SERVICE, four places, 60 minutes, a check every 5 minutes, 10 minutes of grace. -/
def workroom (presence : PresenceRule) : Room :=
  { settings :=
      { inUse := true, isolationRequired := false, presence := presence, maxOccupancy := 4, maxStay := 60,
        checkInterval := 5, grace := 10, events := .all }
    mode := .inService, prior := .inService, doorAlarm := false }

/-- A permit for rooms 0 and 1, valid through estate day 1. -/
def pass (number cred : Nat) (kind : PermitKind) (req : EscortReq) : Permit :=
  { defn :=
      { number := BitVec.ofNat 32 number, cred := BitVec.ofNat 40 cred, kind := kind, requirement := req, rooms := 3
        windowStart := 86400, windowEnd := 172800, weekdays := none, hours := none, budget := none
        coverLimit := if kind = .escort then some 1 else none }
    state := .active, used := 0, storePending := false }

/-- RUNNING, the link UP, the clock SET one hour into day 1; room 0 behind door 0 of port 0, PAIRED room 1 behind door 1 of
port 1, room 2 not in use behind door 2 of port 0; an escort (credential 1), a free contractor (2) and two contractors that
need an escort (3 and 4). -/
def floor : State :=
  { State.reset with
    part := .running
    clock := { value := 90000, elapsed := 0, status := .set, budgetDay := some 1 }
    permits := [pass 1 1 .escort .noEscort, pass 2 2 .contractor .noEscort, pass 3 3 .contractor .escort,
      pass 4 4 .contractor .escort]
    rooms := ((Vector.replicate 16 Room.afterReset).set 0 (workroom .any)).set 1 (workroom .paired)
    doors := (((Vector.replicate 32 none).set 0 (some { room := 0, port := 0 })).set 1 (some { room := 1, port := 1 })).set 2
      (some { room := 2, port := 0 })
    evac := { Evac.afterReset with samples := 2 }
    link := { Link.afterReset with up := true, credits := 8, declared := 8, gatewayMax := 240 }
    journal := [] }

/-- An occupant of room 0, granted through door 0 at 89,000 with 50 minutes. -/
def occupant (cred : Nat) (st : OccState) : Occupant :=
  { cred := BitVec.ofNat 40 cred, permit := BitVec.ofNat 32 cred, room := 0, entryDoor := 0, state := st
    entryTime := 89000, chargeStart := 89000, allowanceEnd := 92000, stage := .within, loneAlarm := false
    uncovered := false, coveredBy := none, covers := []
    evacTime := if st = .unaccounted then some 89900 else none, arrivalOpen := false }

/-- The floor with these occupants. -/
def floorWith (l : List Occupant) : State := { floor with roster := l }

/-- A room's mode changed, its prior mode kept. -/
def inMode (s : State) (m : Mode) : State := s.setMode 0 m

/-- The state with a first presenter waiting at a door. -/
def waiting (s : State) (d : DoorId) (c : Nat) (need : Need) : State :=
  { s.setPairing d (some { cred := BitVec.ofNat 40 c, need := need, time := 90000 }) with
    deadlines := [{ due := 90030, owner := .pair d }] }

/-- The state with one entry in the deadline queue, due at this second. -/
def dueNow (s : State) (o : Owner) : State := { s with deadlines := [{ due := 90000, owner := o }] }

/-- The state with a frame waiting first in its group. -/
def framed (s : State) (kind tag : Byte) (payload : List Byte) : State :=
  { s with link := { s.link with places := [{ kind := kind, tag := tag, payload := payload }] } }

/-- The next state of a command; the state itself where it has none. -/
def after (c : Instr) (s : State) : State :=
  match exec c s with
  | .next t => t
  | .fault _ => s
  | .refused _ => s

/-- A frame of these bytes with a right check. -/
def wire (kind : Byte) (payload : List Byte) : WireFrame :=
  { length := BitVec.ofNat 8 payload.length, kind := kind, tag := 7, creditReturn := 0, payload := payload
    crcLow := BitVec.ofNat 8 ((crc16 0xFFFF (BitVec.ofNat 8 payload.length :: kind :: 7 :: 0 :: payload)).toNat % 256)
    crcHigh := BitVec.ofNat 8 ((crc16 0xFFFF (BitVec.ofNat 8 payload.length :: kind :: 7 :: 0 :: payload)).toNat / 256) }

/-- What holds of no value holds of every value there is. -/
theorem of_none {α : Type} {p : α → Prop} {x : Option α} (h : x = none) : ∀ a, x = some a → p a := by
  intro a ha; rw [h] at ha; cases ha

/-- What holds of the one value holds of every value there is. -/
theorem of_some {α : Type} {p : α → Prop} {x : Option α} {b : α} (h : x = some b) (hb : p b) : ∀ a, x = some a → p a := by
  intro a ha; rw [h] at ha; cases ha; exact hb

/-! ## Ill-formed commands are refused -/

theorem test_wf_port_frames_of_another_row :
    (Instr.presentIn 0 { sdi := [6, 0, 0, 0] }).wf = false ∧ (Instr.presentOut 0 { sdi := [1, 0, 5, 0] }).wf = false ∧
    (Instr.checkIn 0 { sdi := [2, 0, 5, 0] }).wf = false ∧ (Instr.arrivalPassed 0 { sdi := [3, 0, 5, 0] }).wf = false ∧
    (Instr.arrivalNotPassed 0 { sdi := [5, 0, 1, 1] }).wf = false ∧ (Instr.doorAlarmForced 0 { sdi := [4, 0, 6] }).wf = false ∧
    (Instr.doorAlarmHeld 0 { sdi := [6, 0, 0] }).wf = false ∧ (Instr.doorAlarmRestored 0 { sdi := [7, 0, 0] }).wf = false ∧
    (Instr.read 0 { sdi := [7, 0, 0] }).wf = false ∧ (Instr.portReset 0 { sdi := [6, 0, 0] }).wf = false := by decide +kernel

theorem test_wf_values_of_another_row :
    (Instr.arrivalPassed 0 (frameOf 4 0 (be 5 1 ++ [2]) [])).wf = false ∧
    (Instr.arrivalNotPassed 0 (frameOf 4 0 (be 5 1 ++ [1]) [])).wf = false ∧
    (Instr.doorAlarmForced 0 (frameOf 5 0 [2] [])).wf = false ∧ (Instr.doorAlarmHeld 0 (frameOf 5 0 [3] [])).wf = false ∧
    (Instr.doorAlarmRestored 0 (frameOf 5 0 [1] [])).wf = false := by decide +kernel

theorem test_wf_frames :
    (Instr.frameReceived { wire 28 [1] with crcLow := 0, crcHigh := 0 }).wf = false ∧ (Instr.frameReceived (wire 1 [])).wf = false ∧
    (Instr.frameReceived { wire 28 [1] with length := 2 }).wf = false ∧ (Instr.frameCrcDiscard (wire 28 [1])).wf = false ∧
    (Instr.frameCrcDiscard { wire 28 [1] with length := 2 }).wf = false ∧
    (Instr.interByteGapTimeout [0, 1, 7, 0, 3, 4]).wf = false ∧
    (Instr.frameLengthDiscard { wire 28 [1] with length := 250 }).wf = false ∧
    (Instr.frameOverrunDiscard (wire 2 [])).wf = false ∧
    (Instr.frameOverrunDiscard { wire 28 [1] with length := 0 }).wf = false ∧
    (Instr.hello (wire 2 [])).wf = false ∧ (Instr.hello { wire 1 [8, 240] with crcLow := 0, crcHigh := 0 }).wf = false ∧
    (Instr.credit (wire 1 [8, 240])).wf = false ∧ (Instr.credit { wire 2 [] with crcLow := 0, crcHigh := 0 }).wf = false := by decide +kernel

/-- Settings in which one field is as given and the others are least. -/
def settingsOf (occ stay check grace : Nat) : RoomSettings :=
  { inUse := true, isolationRequired := false, presence := .any, maxOccupancy := occ, maxStay := stay,
    checkInterval := check, grace := grace, events := .all }

theorem test_wf_operands :
    (Instr.permit 0 (List.replicate 31 0)).wf = false ∧ (Instr.unknownCommand 0 32 []).wf = false ∧
    (Instr.roomSet 0 0 (settingsOf 256 5 0 0)).wf = false ∧ (Instr.roomSet 0 0 (settingsOf 1 65536 0 0)).wf = false ∧
    (Instr.roomSet 0 0 (settingsOf 1 5 256 0)).wf = false ∧ (Instr.roomSet 0 0 (settingsOf 1 5 0 256)).wf = false ∧
    (Instr.doorSet 0 0 (some (0xFF, 0xFF))).wf = false ∧ (Instr.musterSelectorWrite 0x4C [3, 0, 0]).wf = false := by
  decide +kernel

/-- A well-formed definition, to be spoilt in one field. -/
def goodDefn : PermitDef :=
  { number := 1, cred := 1, kind := .contractor, requirement := .escort, rooms := 1, windowStart := 0, windowEnd := 31622400
    weekdays := some 1, hours := some (0, 86400), budget := some 1440, coverLimit := none }

theorem test_definition_conditions :
    goodDefn.wellFormed = true ∧ { goodDefn with number := 0 }.wellFormed = false ∧
    { goodDefn with cred := 0 }.wellFormed = false ∧ { goodDefn with rooms := 0 }.wellFormed = false ∧
    { goodDefn with windowEnd := 0 }.wellFormed = false ∧ { goodDefn with windowEnd := 31622401 }.wellFormed = false ∧
    { goodDefn with weekdays := some 0 }.wellFormed = false ∧ { goodDefn with hours := some (30, 90) }.wellFormed = false ∧
    { goodDefn with hours := some (60, 60) }.wellFormed = false ∧
    { goodDefn with hours := some (0, 86460) }.wellFormed = false ∧ { goodDefn with budget := some 0 }.wellFormed = false ∧
    { goodDefn with budget := some 1441 }.wellFormed = false ∧ { goodDefn with coverLimit := some 1 }.wellFormed = false ∧
    { goodDefn with kind := .escort }.wellFormed = false ∧
    { goodDefn with kind := .escort, requirement := .noEscort }.wellFormed = false ∧
    { goodDefn with kind := .escort, requirement := .noEscort, coverLimit := some 5 }.wellFormed = false := by decide +kernel

/-! ## The manual's examples and tables -/

/-- The two check codes on the digits 1 to 9, whose values are published for these polynomials. -/
theorem test_check_codes :
    crc8 [0x31, 0x32, 0x33, 0x34, 0x35, 0x36, 0x37, 0x38, 0x39] = 0xF4 ∧
    crc16 0xFFFF [0x31, 0x32, 0x33, 0x34, 0x35, 0x36, 0x37, 0x38, 0x39] = 0x4B37 := by decide +kernel

/-- The table of 3.2: U and Ur from the elapsed count. -/
theorem test_uncertainty_table :
    [1023, 1024, 61440, 62464, 86400, 97300, 604800, 3624960, 3625984, 3686400].map (fun e => (uncertainty e, margin e)) =
      [(0, 0), (1, 60), (60, 60), (61, 120), (84, 120), (95, 120), (590, 600), (3540, 3540), (3541, 3600), (3600, 3600)] := by
  decide +kernel

/-- 4.4, the allowance of one contractor: Tuesday 14:37:20, U 95; 3,900 s. -/
theorem test_allowance_of_one_contractor :
    checkPermit { value := 86400 + 52640, elapsed := 97300, status := .set, budgetDay := some 1 } 240
      { defn :=
          { number := 1, cred := 1, kind := .contractor, requirement := .noEscort, rooms := 0x800, windowStart := 0
            windowEnd := 3 * 86400 + 64800, weekdays := some 0x1F
            hours := some (25200, 57600), budget := some 360, coverLimit := none }
        state := .active, used := 295, storePending := false } = .admissible 3900 := by decide +kernel

/-- 4.4, a stay cut to five minutes, or refused: 240 s fails with Ur 60, 300 s passes with Ur 0. -/
theorem test_stay_cut_to_five_minutes :
    let p : Permit :=
      { defn :=
          { number := 1, cred := 1, kind := .contractor, requirement := .noEscort, rooms := 1, windowStart := 0
            windowEnd := 864000, weekdays := none, hours := some (21600, 36360), budget := none, coverLimit := none }
        state := .active, used := 0, storePending := false }
    checkPermit { value := 86400 + 36015, elapsed := 1024, status := .set, budgetDay := some 1 } 60 p = .fails 5 .shortStay ∧
    checkPermit { value := 86400 + 36015, elapsed := 60, status := .set, budgetDay := some 1 } 60 p = .admissible 300 := by
  decide +kernel

/-- The boundaries of the class table (R138). -/
theorem test_class_boundaries :
    [0, 99, 100, 399, 400, 799, 800, 1023].map (fun v => classOf (BitVec.ofNat 10 v)) =
      [.short, .short, .active, .active, .inactive, .inactive, .openLoop, .openLoop] := by decide +kernel

/-- R104, R105 at their boundaries, allowance end 1,000 and grace 1 minute. -/
theorem test_stage_boundaries :
    [699, 700, 999, 1000, 1059, 1060].map (fun now => stageAt now 1000 1) =
      [.within, .due, .due, .overstay, .overstay, .alarm] ∧ stageAt 1000 1000 0 = .alarm := by decide +kernel

/-- 9.4, a tight queue: 11 items, a pairing at door 12 of port 1; doors 9, 10 and 12 lead to room 0. -/
def tight : State :=
  let at1 : Option DoorMapping := some { room := 0, port := 1 }
  let s : State := { floor with doors := ((floor.doors.set 9 at1).set 10 at1).set 12 at1 }
  (waiting s 12 3 { escort := true, partner := false }).setPort 1
    { Port.afterReset with queue := List.replicate 11 (.exitResult 9 9 .exited 1), outcome := .taken }

theorem test_tight_queue_drops_a_notice :
    tight.uncommitted 1 = 4 ∧ (tight.noticeAt 0 { kind := .curtailed } 9).port 1 = tight.port 1 := by decide +kernel

theorem test_tight_queue_takes_a_presentation :
    let t := after (.presentIn 1 (frameOf 1 10 (be 5 4) [])) tight
    (t.port 1).queue.drop 11 = [.decision 10 4 (.pending { escort := true, partner := false })] ∧ t.uncommitted 1 = 2 ∧
      (let u := after (.presentIn 1 (frameOf 1 12 (be 5 1) [])) t
       (u.port 1).queue.drop 12 = [.decision 12 3 (.grant 60 false), .decision 12 1 (.grant 60 false)] ∧
         u.uncommitted 1 = 1 ∧
         ((after (.presentIn 1 (frameOf 1 9 (be 5 2) [])) u).port 1).outcome = .notTakenFull) := by decide +kernel

/-- 10.2, 10.3 and 13.3: the part's HELLO, byte for byte: start byte, length 2, kind 1, tag 0, nothing returned, 8 credits
and 240 bytes, then the CRC-16 of the six bytes after the start byte, BD3BH, least significant byte first. -/
theorem test_hello_goes_out_whole :
    (after .helloSendTick { floor with link := Link.afterReset }).link.lastSent = [0x7E, 2, 1, 0, 0, 8, 240, 0x3B, 0xBD] := by
  decide +kernel

/-! ## Witnesses: the machine and its laws -/

/-- A floor in the middle of its day: an escort inside, a contractor arriving, a first presenter at door 1, a write in the
engine, a snapshot still in its area, and a command waiting. -/
def busy : State :=
  let s := floorWith [occupant 1 .inside, occupant 2 .arriving]
  let t := waiting s 1 3 { escort := false, partner := true }
  { t with
    pending := [.clockSecond]
    deadlines := [{ due := 90020, owner := .arrive 2 }, { due := 90030, owner := .pair 1 },
      { due := 90300, owner := .check 1 }, { due := 91700, owner := .stay 1 }, { due := 172800, owner := .day }]
    store := { Store.blank with
      queue := [writeOf (.door 0 none)], engine := some (.program 0 (.door 0 none) 1), slots := [(7, .retired)] }
    snap := { SnapArea.blank with content := some (snapshotOf s), valid := true, consumed := true } }

/-- The floor with the erase of a DIRTY page in flight. -/
def erasing (page : Nat) : State :=
  { floor with store := { floor.store with
      dirty := [page], compaction := some { page := page, todo := [], marked := true }, engine := some (.erase page) } }

theorem test_step_witness : busy.pending = .clockSecond :: [] ∧ floor.pending = [] ∧ ∃ t, step busy = .next t :=
  ⟨rfl, rfl, ⟨_, rfl⟩⟩

theorem test_bounds_witness : busy.clockLaw ∧ busy.journalLaw ∧ busy.linkLaw := by
  unfold State.clockLaw State.journalLaw State.linkLaw; decide +kernel

theorem test_permit_table_witness : busy.usedLaw ∧ busy.permitLaw ∧ busy.limitLaw ∧ busy.definedLaw ∧ busy.referLaw := by
  unfold State.usedLaw State.permitLaw State.limitLaw State.definedLaw State.referLaw; decide +kernel

/-- What waits is no device reset. -/
theorem test_no_reset_waits (cause : ResetCause) (lost : Bool) (rest : List Instr) :
    busy.pending ≠ .deviceReset cause lost :: rest := fun h => by cases h

theorem test_evacuation_law_witness : busy.evacLaw := by unfold State.evacLaw State.notStarted; decide +kernel

theorem test_modes_law_witness : busy.modesLaw := by
  unfold State.modesLaw State.modeLaw Snapshot.modeLaw; decide +kernel

theorem test_roster_laws_witness : busy.rosterLaw ∧ busy.allowanceLaw ∧ busy.occupancyLaw := by
  unfold State.rosterLaw State.allowanceLaw State.occupancyLaw; decide +kernel

theorem test_deadline_law_witness : busy.deadlineLaw := by
  unfold State.deadlineLaw deadlinesSorted deadlinesDistinct State.dayLaw; decide +kernel

theorem test_day_and_erase_laws_witness : busy.dayArmedLaw ∧ busy.eraseLaw ∧ (erasing 3).eraseLaw := by
  unfold State.dayArmedLaw State.eraseLaw
  refine ⟨by decide +kernel, ⟨(fun _ h => nomatch h), by decide +kernel, (fun _ h => nomatch h)⟩, ⟨?_, by decide +kernel, ?_⟩⟩
  · intro page h; cases h; decide +kernel
  · exact fun _ h => by cases h

theorem test_port_law_witness : busy.portLaw := by unfold State.portLaw; decide +kernel

theorem test_store_laws_witness : busy.queueLaw ∧ busy.slotLaw := by
  unfold State.queueLaw State.slotLaw; decide +kernel

theorem test_person_law_witness : busy.personLaw := by
  unfold State.personLaw State.notStarted; decide +kernel

theorem test_stand_law_witness : busy.standLaw := by
  refine ⟨by decide +kernel, by unfold Snapshot.standLaw; decide +kernel, ?_, ?_, ?_⟩
  · intro e he c hc
    simp only [busy, List.mem_cons, List.not_mem_nil, or_false] at he
    rcases he with rfl | rfl | rfl | rfl | rfl <;> cases hc
    exact ⟨occupant 2 .arriving, by decide +kernel, rfl, rfl⟩
  · intro e he c hc
    simp only [busy, List.mem_cons, List.not_mem_nil, or_false] at he
    rcases he with rfl | rfl | rfl | rfl | rfl <;> cases hc
    exact ⟨occupant 1 .inside, by decide +kernel, rfl, by decide +kernel⟩
  · exact fun h => absurd h (by unfold State.notStarted; decide +kernel)

/-- Every field of a definition at its greatest value. -/
def fullDefn : PermitDef :=
  { number := 0xFFFFFFFF, cred := 0xFFFFFFFFFF, kind := .escort, requirement := .noEscort, rooms := 0xFFFF
    windowStart := 4294967295 - 31622400, windowEnd := 4294967295, weekdays := some 127, hours := some (86340, 86400)
    budget := some 1440, coverLimit := some 4 }

theorem test_definition_bytes_witness :
    fullDefn.wellFormed = true ∧ fullDefn.windowEnd < 2 ^ 32 ∧ goodDefn.wellFormed = true ∧
    (settingsOf 255 65535 255 255).maxOccupancy < 256 ∧ (settingsOf 255 65535 255 255).maxStay < 65536 ∧
    (settingsOf 255 65535 255 255).checkInterval < 256 ∧ (settingsOf 255 65535 255 255).grace < 256 := by decide +kernel

/-! ## Witnesses: door ports -/

/-- The credential 2 as a payload. -/
theorem test_payload_credential : payloadCredential (be 5 2) = 2 ∧ (be 5 2).length = 5 := by decide +kernel

/-- The floor with port 0's queue filled to so many items. -/
def filled (n : Nat) : State :=
  floor.setPort 0 { Port.afterReset with queue := List.replicate n (.exitResult 0 9 .exited 1), outcome := .taken }

/-- One exchange for each outcome that takes no request: a poll, STARTING, LOW_POWER, a frame cut short, and a queue with
one place too few for PRESENT_IN. -/
theorem test_not_taken_witness :
    notTaken floor 0 { sdi := [1, 0] } 6 0 none 0 = some .starting ∧
    notTaken State.reset 0 (frameOf 6 0 [] []) 6 0 none 0 = some .starting ∧
    notTaken { floor with part := .lowPower } 0 (frameOf 6 0 [] []) 6 0 none 0 = some .lowPower ∧
    notTaken floor 0 { sdi := [6, 0, 0] } 6 0 none 0 = some .badFrame ∧
    notTaken floor 0 (frameOf 4 0 (be 5 1 ++ [3]) []) 4 6 (some (5, 1)) 0 = some .badFrame ∧
    notTaken (filled 15) 0 (frameOf 1 0 (be 5 2) []) 1 5 none 2 = some .notTakenFull ∧
    notTaken (filled 16) 0 (frameOf 2 0 (be 5 2) []) 2 5 none 1 = some .notTakenFull ∧
    notTaken (filled 15) 0 (frameOf 2 0 (be 5 2) []) 2 5 none 1 = none := by decide +kernel

theorem test_can_take_witness :
    CanTake floor 0 2 ∧ CanTake (filled 14) 0 2 ∧ CanTake (filled 15) 0 1 ∧ CanTake (filled 16) 0 0 ∧
    floor.door 0 = some { room := 0, port := 0 } ∧ (floor.room 0).settings.inUse = true := by
  unfold CanTake; decide +kernel

theorem test_refused_by_mode_witness :
    [Mode.closed, .evacuating, .muster].map (fun m =>
      (modeRefusal ((inMode floor m).room 0).mode, (inMode floor m).record? 2, (inMode floor m).door 0)) =
      [(some .closed, none, some { room := 0, port := 0 }), (some .evac, none, some { room := 0, port := 0 }),
       (some .muster, none, some { room := 0, port := 0 })] := by decide +kernel

/-- An UNACCOUNTED record presents at a door of its room in MUSTER; another stays, so the room stays in MUSTER. -/
theorem test_accounted_first_witness :
    let s := inMode (floorWith [occupant 1 .unaccounted, occupant 2 .unaccounted]) .muster
    s.record? 2 = some (occupant 2 .unaccounted) ∧ CanTake s 0 2 ∧ s.door 0 = some { room := 0, port := 0 } ∧
    (s.room 0).settings.inUse = true ∧
    modeRefusal ((after (.presentIn 0 (frameOf 1 (doorByte 0) (be 5 2) [])) s).room 0).mode = some .muster ∧
    s.personLaw ∧ s.permitLaw := by
  unfold CanTake State.personLaw State.notStarted State.permitLaw; decide +kernel

/-- The last record of a MUSTER room presents: accounted, it is then admitted to the room, IN_SERVICE again (R62, R156). -/
theorem test_accounted_then_granted :
    let t := after (.presentIn 0 (frameOf 1 0 (be 5 2) [])) (inMode (floorWith [occupant 2 .unaccounted]) .muster)
    (t.journal.map fun j => j.entry.kind) = [.accounted, .roomMode, .grant] ∧
      (t.roster.map fun o => (o.state, o.entryTime)) = [(.arriving, 90000)] := by decide +kernel

/-- A re-entry, charged 17 minutes and then granted afresh (R67). -/
theorem test_reentry_is_granted_afresh :
    let t := after (.presentIn 0 (frameOf 1 0 (be 5 2) [])) (floorWith [occupant 2 .inside])
    (t.journal.map fun j => j.entry.kind) = [.exit, .grant] ∧ (t.permit? 2).map (·.used) = some 17 ∧
      (t.roster.map fun o => (o.state, o.entryTime)) = [(.arriving, 90000)] ∧
      (t.port 0).queue = [.decision 0 2 (.grant 60 false)] := by decide +kernel

/-- The laws that the decision after a cancelled pairing or a re-entry asks for. -/
theorem test_decided_after_witness :
    (floorWith [occupant 2 .inside]).personLaw ∧ (floorWith [occupant 2 .inside]).permitLaw ∧
    (waiting floor 1 3 { escort := true, partner := true }).personLaw ∧
    (waiting floor 1 3 { escort := true, partner := true }).permitLaw := by
  unfold State.personLaw State.notStarted State.permitLaw; decide +kernel

/-- The floor with a permit suspended. -/
def suspended (n : Nat) : State := floor.updatePermit (BitVec.ofNat 32 n) fun p => { p with state := .suspended }

/-- The presenter waits at this door; it waits at another and is refused here after its cancellation. -/
theorem test_waiting_presenter_witness :
    let s := waiting (suspended 3) 1 3 { escort := true, partner := true }
    (waiting floor 0 3 { escort := true, partner := false }).pairingDoor 3 = some 0 ∧ s.pairingDoor 3 = some 1 ∧
    s.pairing 1 = some { cred := 3, need := { escort := true, partner := true }, time := 90000 } ∧ s.record? 3 = none ∧
    (s.room 0).mode = .inService ∧
    laterRefusal (slotCancelled (portTaken s 0 []) 1 { cred := 3, need := { escort := true, partner := true }, time := 90000 })
      0 3 = some (.suspended, some 3) := by decide +kernel

/-- The floor with room 0 changed, and a journal of so many records. -/
def roomWith (f : Room → Room) (records : Nat) : State :=
  { floor.setRoom 0 (f (floor.room 0)) with
    journal := List.replicate records { time := 0, gap := false, entry := { kind := .start } } }

/-- Each refusal of steps 6 and 8 to 13, at the boundary of its condition. -/
theorem test_later_refusals_witness :
    laterRefusal floor 0 9 = some (.unknownCredential, none) ∧ laterRefusal floor 2 2 = some (.notPermitted, none) ∧
    laterRefusal (suspended 2) 0 2 = some (.suspended, some 2) ∧
    laterRefusal (roomWith id 192) 0 2 = some (.journalFull, none) ∧ laterRefusal (roomWith id 191) 0 2 = none ∧
    laterRefusal (roomWith id 192) 0 1 = none ∧
    laterRefusal (roomWith (fun x => { x with doorAlarm := true }) 0) 0 2 = some (.doorAlarm, none) ∧
    laterRefusal (roomWith (fun x => { x with settings := { x.settings with isolationRequired := true } }) 0) 0 2 =
      some (.isolation, none) ∧
    laterRefusal (roomWith (fun x => { x with settings := { x.settings with maxOccupancy := 0 } }) 0) 0 2 =
      some (.roomFull, none) ∧
    laterRefusal (floorWith (List.replicate 96 { occupant 3 .inside with room := 1 })) 0 2 = some (.rosterFull, none) ∧
    laterRefusal floor 0 2 = none := by decide +kernel

/-- A record with no permit of its credential, one in another room, and one in the door's room. -/
theorem test_record_presents_witness :
    ({ floorWith [occupant 2 .inside] with permits := [] } : State).record? 2 = some (occupant 2 .inside) ∧
    (∃ m ∈ floor.permits, m.defn.cred = 2) ∧
    (floorWith [{ occupant 2 .inside with room := 1 }]).record? 2 = some { occupant 2 .inside with room := 1 } ∧
    (floorWith [occupant 2 .inside]).record? 2 = some (occupant 2 .inside) ∧
    (floorWith [occupant 2 .inside]).pairingDoor 2 = none ∧ ((floorWith [occupant 2 .inside]).room 0).mode = .inService := by
  decide +kernel

/-- A door past the last, an unmapped door, a door of another port, and a door of a room not in use. -/
theorem test_refused_unknown_door_witness :
    ∀ door ∈ ([255, 32, 31, 1, 2] : List Byte), ∀ d m, doorOfNat door.toNat = some d → floor.door d = some m →
      m.port = (0 : PortId) → (floor.room m.room).settings.inUse = false := by
  intro door hd
  simp only [List.mem_cons, List.not_mem_nil, or_false] at hd
  rcases hd with rfl | rfl | rfl | rfl | rfl
  · intro d m h; exact absurd h (by rw [show doorOfNat (255 : Byte).toNat = none by decide +kernel]; simp)
  · intro d m h; exact absurd h (by rw [show doorOfNat (32 : Byte).toNat = none by decide +kernel]; simp)
  · intro d m h
    exact of_some (p := fun d => floor.door d = some m → m.port = (0 : PortId) → (floor.room m.room).settings.inUse = false)
      (show doorOfNat (31 : Byte).toNat = some 31 by decide +kernel)
      (fun hm => by rw [show floor.door 31 = none by decide +kernel] at hm; cases hm) d h
  · intro d m h
    exact of_some (p := fun d => floor.door d = some m → m.port = (0 : PortId) → (floor.room m.room).settings.inUse = false)
      (show doorOfNat (1 : Byte).toNat = some 1 by decide +kernel)
      (fun hm hp => by
        rw [show floor.door 1 = some { room := 1, port := 1 } by decide +kernel] at hm
        cases hm; exact absurd hp (by decide)) d h
  · intro d m h
    exact of_some (p := fun d => floor.door d = some m → m.port = (0 : PortId) → (floor.room m.room).settings.inUse = false)
      (show doorOfNat (2 : Byte).toNat = some 2 by decide +kernel)
      (fun hm _ => by
        rw [show floor.door 2 = some { room := 2, port := 0 } by decide +kernel] at hm
        cases hm; decide +kernel) d h

/-- The floor with two more permits of credential 2, of equal allowances (4.4, choosing among permits). -/
def manyPermits : State :=
  { floor with permits := floor.permits ++ [pass 5 2 .contractor .noEscort, { pass 6 2 .contractor .noEscort with
      defn := { (pass 6 2 .contractor .noEscort).defn with windowEnd := 90300 } }] }

theorem test_selection_witness :
    manyPermits.selectPermit 0 2 = .chosen (pass 2 2 .contractor .noEscort) 3600 ∧
    checkPermit manyPermits.clock 60 (pass 5 2 .contractor .noEscort) = .admissible 3600 ∧
    (∀ q ∈ floor.permits, q.defn.cred = 2 → namesRoom q.defn 2 = false) ∧
    floor.selectPermit 2 2 = .refused .notPermitted none ∧
    (suspended 2).selectPermit 0 2 = .refused .suspended (some 2) ∧
    (∃ q ∈ (suspended 2).permits, q.defn.cred = 2 ∧ namesRoom q.defn 0 = true) := by decide +kernel

/-- A definition with hours and a budget, whose allowance at 90,000 with so many minutes used is what is left. -/
def limited (used : Nat) : Permit :=
  { pass 2 2 .contractor .noEscort with
    defn := { (pass 2 2 .contractor .noEscort).defn with hours := some (3600, 7200), budget := some 20 }
    used := used }

theorem test_allowance_witness :
    checkPermit floor.clock 60 (limited 15) = .admissible 300 ∧ checkPermit floor.clock 60 (limited 0) = .admissible 1200 ∧
    passesUntimed (limited 0).defn .set = false ∧
    checkPermit { floor.clock with status := .lost } 60 (pass 1 1 .escort .noEscort) = .admissible 3600 := by decide +kernel

/-- The floor with a room that admits for five minutes at most. -/
def shortStay : State :=
  floor.setRoom 0 { floor.room 0 with settings := { (floor.room 0).settings with maxStay := 5 } }

theorem test_grant_witness :
    Admissible floor 0 0 0 2 (pass 2 2 .contractor .noEscort) 3600 ∧ floor.pairing 0 = none ∧
    needs floor 0 (pass 2 2 .contractor .noEscort) = { escort := false, partner := false } := by
  refine ⟨⟨?_, ?_, ?_, ?_, ?_, ?_, ?_, ?_, ?_⟩, ?_, ?_⟩ <;> first | decide +kernel | (unfold CanTake; decide +kernel)

theorem test_short_grant_witness :
    Admissible shortStay 0 0 0 1 (pass 1 1 .escort .noEscort) 300 ∧ shortStay.pairing 0 = none ∧
    needs shortStay 0 (pass 1 1 .escort .noEscort) = { escort := false, partner := false } := by
  refine ⟨⟨?_, ?_, ?_, ?_, ?_, ?_, ?_, ?_, ?_⟩, ?_, ?_⟩ <;> first | decide +kernel | (unfold CanTake; decide +kernel)

theorem test_covered_grant_witness :
    let s := floorWith [occupant 1 .inside]
    Admissible s 0 0 0 3 (pass 3 3 .contractor .escort) 3600 ∧ s.pairing 0 = none ∧
    needs s 0 (pass 3 3 .contractor .escort) = { escort := false, partner := false } ∧ s.personLaw ∧ s.permitLaw := by
  refine ⟨⟨?_, ?_, ?_, ?_, ?_, ?_, ?_, ?_, ?_⟩, ?_, ?_, ?_, ?_⟩ <;>
    first
    | decide +kernel
    | (unfold CanTake; decide +kernel)
    | (unfold State.personLaw State.notStarted; decide +kernel)
    | (unfold State.permitLaw; decide +kernel)

theorem test_grant_laws_witness : floor.personLaw ∧ floor.permitLaw ∧ shortStay.personLaw ∧ shortStay.permitLaw := by
  unfold State.personLaw State.notStarted State.permitLaw; decide +kernel

theorem test_pending_witness :
    Admissible floor 0 0 0 3 (pass 3 3 .contractor .escort) 3600 ∧ floor.pairing 0 = none ∧
    needs floor 0 (pass 3 3 .contractor .escort) ≠ { escort := false, partner := false } ∧
    needs floor 1 (pass 1 1 .escort .noEscort) = { escort := false, partner := true } := by
  refine ⟨⟨?_, ?_, ?_, ?_, ?_, ?_, ?_, ?_, ?_⟩, ?_, ?_, ?_⟩ <;> first | decide +kernel | (unfold CanTake; decide +kernel)

/-- A contractor waits at door 0 of a room with two places left; the escort comes to the door. -/
def pairAtDoor : State :=
  waiting (floorWith [occupant 2 .inside, { occupant 4 .inside with uncovered := true }]) 0 3
    { escort := true, partner := false }

theorem test_pair_witness :
    Admissible pairAtDoor 0 0 0 1 (pass 1 1 .escort .noEscort) 3600 ∧
    pairAtDoor.pairing 0 = some { cred := 3, need := { escort := true, partner := false }, time := 90000 } ∧
    pairAtDoor.decidePerson 0 3 = .chosen (pass 3 3 .contractor .escort) 3600 ∧
    jointRefusal pairAtDoor 0 (pass 3 3 .contractor .escort) (pass 1 1 .escort .noEscort) = none ∧
    pairAtDoor.personLaw ∧ pairAtDoor.permitLaw := by
  refine ⟨⟨?_, ?_, ?_, ?_, ?_, ?_, ?_, ?_, ?_⟩, ?_, ?_, ?_, ?_, ?_⟩ <;>
    first
    | decide +kernel
    | (unfold CanTake; decide +kernel)
    | (unfold State.personLaw State.notStarted; decide +kernel)
    | (unfold State.permitLaw; decide +kernel)

/-- Credential 3 waits at door 0; its permit may have been suspended since. -/
def firstWaits (s : State) : State := waiting s 0 3 { escort := true, partner := false }

/-- The second presenter where the first now fails: one with no need, one that needs an escort; and two contractors with no
escort, whose joint test fails; and a pair for whom the room has one place. -/
theorem test_pair_test_witness :
    Admissible (firstWaits (suspended 3)) 0 0 0 2 (pass 2 2 .contractor .noEscort) 3600 ∧
    Admissible (firstWaits (suspended 3)) 0 0 0 4 (pass 4 4 .contractor .escort) 3600 ∧
    (firstWaits (suspended 3)).decidePerson 0 3 = .refused .suspended (some 3) ∧
    needs (firstWaits (suspended 3)) 0 (pass 2 2 .contractor .noEscort) = { escort := false, partner := false } ∧
    needs (firstWaits (suspended 3)) 0 (pass 4 4 .contractor .escort) ≠ { escort := false, partner := false } ∧
    Admissible (firstWaits floor) 0 0 0 4 (pass 4 4 .contractor .escort) 3600 ∧
    jointRefusal (firstWaits floor) 0 (pass 3 3 .contractor .escort) (pass 4 4 .contractor .escort) = some .pairMismatch ∧
    jointRefusal (roomWith (fun x => { x with settings := { x.settings with maxOccupancy := 1 } }) 0) 0
      (pass 3 3 .contractor .escort) (pass 1 1 .escort .noEscort) = some .roomFull := by
  refine ⟨⟨?_, ?_, ?_, ?_, ?_, ?_, ?_, ?_, ?_⟩, ⟨?_, ?_, ?_, ?_, ?_, ?_, ?_, ?_, ?_⟩, ?_, ?_, ?_,
    ⟨?_, ?_, ?_, ?_, ?_, ?_, ?_, ?_, ?_⟩, ?_, ?_⟩ <;> first | decide +kernel | (unfold CanTake; decide +kernel)

theorem test_exit_witness :
    (floorWith [occupant 2 .inside]).personLaw ∧ (floorWith [occupant 2 .inside]).record? 2 = some (occupant 2 .inside) ∧
    (floorWith [occupant 2 .arriving]).record? 2 = some (occupant 2 .arriving) ∧
    (inMode (floorWith [occupant 2 .inside]) .evacuating).record? 2 = some (occupant 2 .inside) ∧
    (inMode (floorWith [occupant 2 .unaccounted]) .muster).record? 2 = some (occupant 2 .unaccounted) ∧
    (inMode (floorWith [occupant 2 .unaccounted]) .muster).personLaw ∧
    (occupant 2 .inside).room = 0 ∧ (occupant 2 .inside).state ≠ .unaccounted ∧ (occupant 2 .arriving).state ≠ .unaccounted := by
  unfold State.personLaw State.notStarted; decide +kernel

theorem test_exit_unknown_witness :
    let s := floorWith [{ occupant 2 .inside with room := 1 }]
    let w := waiting s 1 3 { escort := true, partner := false }
    s.mappedDoor 0 0 = some (0, 0) ∧ s.pairingDoor 2 = none ∧
    s.record? 2 = some { occupant 2 .inside with room := 1 } ∧ (1 : RoomId) ≠ 0 ∧
    w.pairingDoor 3 = some 1 ∧ w.record? 3 = none ∧
    w.pairing 1 = some { cred := 3, need := { escort := true, partner := false }, time := 90000 } ∧
    s.mappedDoor 0 1 = none ∧ s.mappedDoor 0 255 = none := by decide +kernel

/-- Credential 2 alone in room 0 under supervision. -/
def alone (alarm : Bool) : State :=
  { floorWith [{ occupant 2 .inside with loneAlarm := alarm }] with deadlines := [{ due := 90300, owner := .check 2 }] }

theorem test_check_in_witness :
    (alone true).record? 2 = some { occupant 2 .inside with loneAlarm := true } ∧ (alone true).hasCheck 2 = true ∧
    (alone false).record? 2 = some (occupant 2 .inside) ∧ (alone false).pairingDoor 2 = none ∧
    (alone true).pairingDoor 2 = none ∧ CanTake (alone true) 0 1 ∧ floor.mappedDoor 0 0 = some (0, 0) ∧
    (floorWith [occupant 2 .inside]).hasCheck 2 = false ∧ floor.record? 2 = none ∧
    (waiting floor 1 3 { escort := true, partner := true }).pairingDoor 3 = some 1 ∧
    (waiting floor 1 3 { escort := true, partner := true }).pairing 1 =
      some { cred := 3, need := { escort := true, partner := true }, time := 90000 } ∧
    floor.mappedDoor 0 1 = none := by unfold CanTake; decide +kernel

/-- Credential 2 granted a second less than 30 before, frozen while ARRIVING. -/
def stillOpen : State :=
  inMode (floorWith [{ occupant 2 .inside with entryTime := 89971, arrivalOpen := true, evacTime := some 89990 }]) .evacuating

theorem test_arrival_witness :
    byteAt (be 5 2 ++ [1]) 5 = 1 ∧ byteAt (be 5 2 ++ [2]) 5 = 2 ∧ payloadCredential (be 5 2 ++ [1]) = 2 ∧
    (floorWith [occupant 2 .arriving]).record? 2 = some (occupant 2 .arriving) ∧ (occupant 2 .arriving).entryDoor = 0 ∧
    (floor.room 0).mode.isOrdinary = true ∧ (occupant 2 .arriving).state = .arriving ∧
    (stillOpen.record? 2).map (fun o => (o.entryDoor, o.arrivalOpen, decide (stillOpen.now < min (o.entryTime + 30) 4294967295))) =
      some (0, true, true) ∧ (stillOpen.room 0).mode.isOrdinary = false ∧
    floor.arrivalMatch 0 2 = none ∧ (floorWith [occupant 2 .inside]).arrivalMatch 0 2 = none ∧
    (floorWith [occupant 2 .arriving]).personLaw ∧ stillOpen.personLaw := by
  unfold State.personLaw State.notStarted; decide +kernel

/-- Doors that port 0 does not have: one of another port, one of none, one past the last. -/
theorem test_unmapped_door_witness :
    CanTake floor 0 0 ∧ floor.mappedDoor 0 1 = none ∧ floor.mappedDoor 0 31 = none ∧ floor.mappedDoor 0 255 = none := by
  unfold CanTake; decide +kernel

theorem test_port_reset_witness :
    CanTake pairAtDoor 0 0 ∧ pairAtDoor.journal.length + 32 ≤ 256 ∧ (pairAtDoor.pairing 0).isSome = true ∧
    pairAtDoor.door 0 = some { room := 0, port := 0 } := by unfold CanTake; decide +kernel

/-! ## Witnesses: the estate link -/

/-- The floor with so many frames waiting and an effective maximum payload. -/
def waitingFrames (n max : Nat) : State :=
  { floor with link := { floor.link with
      places := List.replicate n { kind := 28, tag := 1, payload := [] }, effectiveMax := max } }

theorem test_frames_witness :
    floor.part ≠ .starting ∧ floor.link.up = true ∧ (wire 28 [1, 0, 0, 0, 0, 0]).good = true ∧
    (wire 28 [1, 0, 0, 0, 0, 0]).length.toNat ≤ (waitingFrames 7 6).link.effectiveMax ∧ isLinkKind 28 = false ∧
    (waitingFrames 7 6).link.places.length < 8 ∧ (wire 2 []).good = true ∧ (wire 2 []).kind = 2 ∧
    (waitingFrames 8 5).link.effectiveMax < (wire 28 [1, 0, 0, 0, 0, 0]).length.toNat ∧
    8 ≤ (waitingFrames 8 6).link.places.length ∧
    ({ wire 28 [1] with crcLow := 0, crcHigh := 0 } : WireFrame).good = false ∧ isLinkKind 1 = true := by decide +kernel

theorem test_hello_witness :
    (wire 1 [1, 120]).good = true ∧ (wire 1 [1, 120]).kind = 1 ∧ (wire 1 [1, 120]).payload = [1, 120] ∧
    1 ≤ (1 : Byte).toNat ∧ 120 ≤ (120 : Byte).toNat ∧ (255 : Byte).toNat = 255 ∧ 2 ≤ floor.link.effectiveMax ∧
    floor.part = .running ∧ floor.link.up = true ∧ ({ floor with link := Link.afterReset } : State).link.up = false := by
  decide +kernel

theorem test_timers_and_sending_witness :
    floor.link.up = true ∧ floor.part = .running ∧ floor.link.eventInFlight = false ∧ 0 < floor.link.credits ∧
    ({ floor with link := { floor.link with replies := [.reply 7 .ok []] } } : State).link.replies = [.reply 7 .ok []] ∧
    floor.link.replies = [] ∧ floor.journal = [] ∧ State.reset.journal.length = 2 ∧
    ({ floor with link := { floor.link with credits := 0, owed := 300 } } : State).link.credits = 0 ∧
    ({ floor with link := { floor.link with eventInFlight := true } } : State).link.eventInFlight = true := by decide +kernel

/-! ## Witnesses: permits, rooms and doors -/

/-- A permit number in four payload bytes. -/
def num4 (n : Nat) : List Byte := be 4 n

/-- The floor with permit 2 in another state. -/
def permitIn (st : PermitState) : State := floor.updatePermit 2 fun p => { p with state := st }

theorem test_store_queue_witness : floor.queueLaw ∧
    ({ floor with store := { floor.store with queue := List.replicate 31 (retireOf (.permit 9)) } } : State).queueLaw := by
  unfold State.queueLaw; decide +kernel

theorem test_permit_commands_witness :
    StoreCommandTaken (framed floor 17 7 (num4 2)) 7 (.suspend 2) ∧
    StoreCommandTaken (framed (permitIn .suspended) 18 7 (num4 2)) 7 (.resume 2) ∧
    StoreCommandTaken (framed floor 19 7 (num4 2)) 7 (.revoke 2) ∧
    StoreCommandTaken (framed (permitIn .suspended) 20 7 (num4 2)) 7 (.remove 2) ∧
    floor.permit? 2 = some (pass 2 2 .contractor .noEscort) ∧ floor.occupantOf? 2 = none ∧
    ((permitIn .suspended).permit? 2).map (·.state) = some .suspended ∧
    ((permitIn .revoked).permit? 2).map (·.state) = some .revoked ∧
    ({ floor with store := { floor.store with engine := some (.retire 3) } } : State).store.engine ≠ none ∧
    (let st : Store := { floor.store with slots := [(5, .written (.permit (pass 2 2 .contractor .noEscort).defn .active) 1 true)] }
     st.liveSlot (.permit 2) = some 5 ∧ st.engine = none ∧ st.compaction = none ∧ st.compactionWanted = false ∧
       st.queue = []) ∧ floor.snap.writer = [] := by
  unfold StoreCommandTaken; decide +kernel

/-- An escort in room 0 covering a contractor, and REVOKE of the escort's permit waiting. -/
def escorted : State :=
  framed (floorWith [{ occupant 1 .inside with covers := [3] }, { occupant 3 .inside with coveredBy := some 1 }]) 19 7 (num4 1)

theorem test_revoke_witness :
    escorted.queueLaw ∧ escorted.personLaw ∧ escorted.permit? 1 = some (pass 1 1 .escort .noEscort) ∧
    StoreCommandTaken escorted 7 (.revoke 1) ∧ escorted.occupantOf? 1 = some { occupant 1 .inside with covers := [3] } ∧
    (1 : Credential) ∉ ([3] : List Credential) ∧ escorted.journal.length + 2 ≤ 256 := by
  unfold State.queueLaw State.personLaw State.notStarted StoreCommandTaken; decide +kernel

/-- The covered pair, with a covered list as long as its limit; an escort loss is to come. -/
theorem test_cover_law_witness :
    escorted.coverLaw ∧ escorted.personLaw ∧ escorted.standLaw ∧ escorted.permitLaw ∧ escorted.definedLaw ∧
    escorted.referLaw ∧ ∃ t, step escorted = .next t := by
  refine ⟨?_, ?_, ⟨?_, ?_, ?_, ?_, ?_⟩, ?_, ?_, ?_, _, rfl⟩
  · refine ⟨?_, by decide +kernel, fun _ h => (List.not_mem_nil h).elim⟩
    show linksInStep [{ occupant 1 .inside with covers := [3] }, { occupant 3 .inside with coveredBy := some 1 }]
    simp [linksInStep, occupant, mayLink, OccState.isPresent]
  · unfold State.personLaw State.notStarted; decide +kernel
  · decide +kernel
  · unfold Snapshot.standLaw; decide +kernel
  · exact fun e he => (List.not_mem_nil he).elim
  · exact fun e he => (List.not_mem_nil he).elim
  · exact fun _ _ e he => (List.not_mem_nil he).elim
  · unfold State.permitLaw; decide +kernel
  · unfold State.definedLaw; decide +kernel
  · unfold State.referLaw; decide +kernel

theorem test_store_refusals_witness :
    StoreCommandTaken (framed floor 17 7 (num4 9)) 7 (.suspend 9) ∧ StoreCommandTaken (framed floor 18 7 (num4 9)) 7 (.resume 9) ∧
    StoreCommandTaken (framed floor 19 7 (num4 9)) 7 (.revoke 9) ∧ StoreCommandTaken (framed floor 20 7 (num4 9)) 7 (.remove 9) ∧
    floor.permit? 9 = none ∧ StoreCommandTaken (framed (permitIn .revoked) 17 7 (num4 2)) 7 (.suspend 2) ∧
    StoreCommandTaken (framed floor 18 7 (num4 2)) 7 (.resume 2) ∧
    StoreCommandTaken (framed (permitIn .revoked) 19 7 (num4 2)) 7 (.revoke 2) ∧
    (floorWith [occupant 2 .unaccounted]).occupantOf? 2 ≠ none := by unfold StoreCommandTaken; decide +kernel

/-- ROOM_SET's payload for a room and settings. -/
def roomSetBytes (room : Nat) (st : RoomSettings) : List Byte := encodeSettings room st

theorem test_room_set_witness :
    StoreCommandTaken (framed floor 21 7 (roomSetBytes 16 (settingsOf 1 5 0 0))) 7 (.roomSet 16 (settingsOf 1 5 0 0)) ∧
    StoreCommandTaken (framed floor 21 7 (roomSetBytes 0 (settingsOf 25 5 0 0))) 7 (.roomSet 0 (settingsOf 25 5 0 0)) ∧
    settingsInRange (settingsOf 25 5 0 0) = false ∧ settingsInRange (settingsOf 24 720 120 60) = true ∧
    settingsInRange (settingsOf 1 5 5 0) = true ∧ settingsInRange (settingsOf 1 4 0 0) = false ∧
    settingsInRange (settingsOf 1 721 0 0) = false ∧ settingsInRange (settingsOf 1 5 4 0) = false ∧
    settingsInRange (settingsOf 1 5 121 0) = false ∧ settingsInRange (settingsOf 1 5 0 61) = false ∧
    StoreCommandTaken (framed floor 21 7 (roomSetBytes 15 (settingsOf 24 720 120 60))) 7 (.roomSet 15 (settingsOf 24 720 120 60)) ∧
    floor.presentCount 15 = 0 ∧ floor.roomHasPairing 15 = false ∧ (floor.room 15).mode.isOrdinary = true ∧
    0 < (floorWith [occupant 2 .inside]).presentCount 0 ∧
    (waiting floor 0 3 { escort := true, partner := false }).roomHasPairing 0 = true ∧
    ((inMode floor .muster).room 0).mode.isOrdinary = false := by unfold StoreCommandTaken; decide +kernel

/-- The floor with so many doors from door 8 on mapped to this room and port. -/
def doorsAt (n : Nat) (r : RoomId) (p : PortId) : State :=
  { floor with doors := floor.doors.mapIdx fun i m => if 8 ≤ i ∧ i < 8 + n then some { room := r, port := p } else m }

/-- Each test of DOOR_SET that fails: the numbers, a pairing at the door, an old or a new room not IN_SERVICE or CLOSED, a
port with 8 other doors and a room with 4; the command that one of them answers is taken. -/
theorem test_door_set_refusals_witness :
    doorSetRefusal floor 32 none = some .range ∧ doorSetRefusal floor 31 (some (16, 0)) = some .range ∧
    doorSetRefusal floor 31 (some (0, 4)) = some .range ∧ doorSetRefusal (firstWaits floor) 0 none = some .state ∧
    doorSetRefusal (inMode floor .evacuating) 0 none = some .state ∧
    doorSetRefusal (inMode floor .muster) 31 (some (0, 0)) = some .state ∧
    doorSetRefusal (doorsAt 8 5 2) 31 (some (0, 2)) = some .range ∧ doorSetRefusal (doorsAt 7 5 2) 31 (some (0, 2)) = none ∧
    doorSetRefusal (doorsAt 4 5 2) 31 (some (5, 3)) = some .range ∧ doorSetRefusal (doorsAt 3 5 2) 31 (some (5, 3)) = none ∧
    doorSetRefusal (doorsAt 8 5 2) 8 (some (0, 2)) = none ∧
    StoreCommandTaken (framed floor 22 7 [32, 0xFF, 0xFF]) 7 (.doorSet 32 none) := by
  unfold StoreCommandTaken; decide +kernel

theorem test_door_set_witness :
    StoreCommandTaken (framed floor 22 7 [31, 0, 3]) 7 (.doorSet 31 (some (0, 3))) ∧
    StoreCommandTaken (framed floor 22 7 [0, 0xFF, 0xFF]) 7 (.doorSet 0 none) ∧ floor.queueLaw ∧ floor.pairing 31 = none ∧
    floor.pairing 0 = none ∧ floor.door 31 = none ∧ floor.door 0 = some { room := 0, port := 0 } ∧
    (floor.room 0).mode.isOrdinary = true ∧ ((floor.doorsOfPort 3).filter (· != 31)).length < 8 ∧
    ((floor.doorsOfRoom 0).filter (· != 31)).length < 4 := by unfold StoreCommandTaken State.queueLaw; decide +kernel

theorem test_room_mode_witness :
    CommandTaken (framed floor 23 7 [0, 1]) 7 (.roomModeOpen 0) ∧ CommandTaken (framed floor 23 7 [0, 2]) 7 (.roomModeClose 0) ∧
    CommandTaken (framed floor 23 7 [0, 3]) 7 (.roomModeCloseClear 0) ∧
    CommandTaken (framed floor 23 7 [0, 4]) 7 (.clearDoorAlarm 0) ∧ (floor.room 0).settings.inUse = true ∧
    (floor.room 0).mode = .inService ∧ ((inMode floor .evacuating).room 0).mode ≠ .inService ∧
    CommandTaken (framed floor 23 7 [16, 1]) 7 (.roomModeOpen 16) ∧ CommandTaken (framed floor 23 7 [2, 2]) 7 (.roomModeClose 2) ∧
    (floor.room 2).settings.inUse = false ∧ CommandTaken (framed floor 23 7 [255, 3]) 7 (.roomModeCloseClear 255) ∧
    CommandTaken (framed floor 23 7 [2, 4]) 7 (.clearDoorAlarm 2) := by unfold CommandTaken; decide +kernel

/-- Two occupants in room 0, and CLOSE_CLEAR waiting. -/
def toClear : State := framed (floorWith [occupant 1 .inside, occupant 2 .arriving]) 23 7 [0, 3]

theorem test_close_clear_witness :
    toClear.personLaw ∧ toClear.standLaw ∧ (toClear.room 0).settings.inUse = true ∧
    CommandTaken toClear 7 (.roomModeCloseClear 0) ∧ occupant 1 .inside ∈ toClear.roster ∧
    toClear.journal.length + 1 + (toClear.doorsOfRoom 0).length + 2 * toClear.presentCount 0 ≤ 256 ∧
    0 ∈ toClear.doorsOfRoom 0 ∧
    5 + 2 * toClear.presentCount 0 * (toClear.doorsOfRoom 0).length ≤ toClear.uncommitted 0 ∧
    ((inMode toClear .evacuating).room 0).mode ≠ .inService := by
  refine ⟨?_, ⟨?_, ?_, ?_, ?_, ?_⟩, ?_, ?_, ?_, ?_, ?_, ?_, ?_⟩
  · unfold State.personLaw State.notStarted; decide +kernel
  · decide +kernel
  · unfold Snapshot.standLaw; decide +kernel
  · exact fun e he => (List.not_mem_nil he).elim
  · exact fun e he => (List.not_mem_nil he).elim
  · exact fun _ _ e he => (List.not_mem_nil he).elim
  · decide +kernel
  · unfold CommandTaken; decide +kernel
  all_goals decide +kernel

/-! ## Witnesses: the estate's other commands -/

/-- The clock UNSET since a backup loss, one occupant, and a mark waiting. -/
def unmarked (mark : Nat) : State :=
  { framed (floorWith [occupant 2 .inside]) 16 7 (num4 mark) with
    clock := { value := 90000, elapsed := 3686400, status := .unset, budgetDay := none } }

theorem test_time_witness :
    floor.queueLaw ∧ CommandTaken (framed floor 16 7 (num4 0)) 7 (.time 0) ∧
    CommandTaken (framed floor 16 7 (num4 4294967295)) 7 (.time 4294967295) ∧ (4294967295 : Word32) ≠ 0 ∧
    CommandTaken (unmarked 1) 7 (.time 1) ∧ (unmarked 1).queueLaw ∧ (unmarked 1).clock.status ≠ .set ∧
    (unmarked 1).journal.length < 256 ∧ floor.clock.status = .set ∧ floor.clock.budgetDay ≠ none ∧
    (∀ e ∈ (dueNow floor .day).deadlines, (89999 : Word32).toNat < e.due) := by
  unfold CommandTaken State.queueLaw; decide +kernel

/-- A first mark over an occupant, a waiting presenter and two entries not yet due, forward, and backward past them. -/
theorem test_first_mark_witness :
    let s : State :=
      { unmarked 500000 with
        pairings := (unmarked 1).pairings.set 1 (some { cred := 3, need := { escort := true, partner := true }, time := 89990 })
        deadlines := [{ due := 90020, owner := .pair 1 }, { due := 91700, owner := .stay 2 }] }
    s.clock.status = .unset ∧ s.clock.budgetDay = none ∧ s.permitLaw ∧ CommandTaken s 7 (.time 500000) ∧ s.queueLaw ∧
    (∀ e ∈ s.deadlines, e.owner ≠ .day ∧ (500000 : Word32).toNat < shiftTime s.now (500000 : Word32).toNat e.due) ∧
    (∀ e ∈ s.deadlines, e.owner ≠ .day ∧ (1000 : Word32).toNat < shiftTime s.now (1000 : Word32).toNat e.due) ∧
    (s.pairing 1).map (fun q => q.time) = some 89990 := by
  unfold CommandTaken State.queueLaw State.permitLaw; decide +kernel

/-- The floor with an active evacuation held by the estate alone. -/
def evacuated : State :=
  let s := inMode (floorWith [{ occupant 2 .inside with evacTime := some 89950 }]) .evacuating
  { s with evac := { s.evac with hold := true, active := true } }

theorem test_evacuate_witness :
    floor.personLaw ∧ floor.evacLaw ∧ evacuated.personLaw ∧ evacuated.evacLaw ∧ floor.evac.active = false ∧
    CommandTaken (framed floor 24 7 [1]) 7 .evacuateStart ∧ CommandTaken (framed evacuated 24 7 [1]) 7 .evacuateStart ∧
    evacuated.evac.active = true ∧ CommandTaken (framed evacuated 24 7 [2]) 7 .evacuateEnd ∧ evacuated.evac.hold = true ∧
    evacuated.evac.held = .inactive ∧ evacuated.evac.carryOver = false ∧ floor.evac.hold = false := by
  unfold State.personLaw State.evacLaw State.notStarted CommandTaken; decide +kernel

/-- Credential 2 in room 0 after a curtailment, EXTEND waiting, under a permit with so many budget minutes left. -/
def shortened (budget : Option Nat) : State :=
  let s := framed (floorWith [{ occupant 2 .inside with allowanceEnd := 90100, stage := .due }]) 25 7 (be 5 2)
  s.updatePermit 2 fun p => { p with defn := { p.defn with budget := budget } }

theorem test_extend_witness :
    CommandTaken (shortened none) 7 (.extend 2) ∧
    (shortened none).record? 2 = some { occupant 2 .inside with allowanceEnd := 90100, stage := .due } ∧
    (shortened none).permit? 2 = some (pass 2 2 .contractor .noEscort) ∧
    namesRoom (pass 2 2 .contractor .noEscort).defn 0 = true ∧ (shortened none).clock.status = .set ∧
    ((shortened none).room 0).settings.presence ≠ .paired ∧
    insideWindow (pass 2 2 .contractor .noEscort).defn (permitMargin (pass 2 2 .contractor .noEscort).defn 0) 90000 = true ∧
    extensionOf (shortened none) (occupant 2 .inside) (pass 2 2 .contractor .noEscort) = 2580 ∧
    ((shortened (some 22)).permit? 2).map (extensionOf (shortened (some 22)) (occupant 2 .inside)) = some 300 := by
  unfold CommandTaken; decide +kernel

/-- The worked example of 5.7: 120 s at 15:40:00 by the budget, 1,080 s at 15:41:30 by the daily hours. -/
theorem test_extension_worked_example :
    let visit : Occupant := { occupant 2 .inside with entryTime := 139040, chargeStart := 139040, allowanceEnd := 142940 }
    let at_ (now budget : Nat) : Nat :=
      let s : State := { floor.setRoom 0 { floor.room 0 with settings := { (floor.room 0).settings with maxStay := 240 } } with
        clock := { floor.clock with value := now } }
      extensionOf s visit
        { pass 2 2 .contractor .noEscort with
          defn := { (pass 2 2 .contractor .noEscort).defn with
            windowEnd := 300000, hours := some (25200, 57600), budget := some budget }
          used := 295 }
    at_ 142800 360 = 120 ∧ at_ 142890 480 = 1080 := by decide +kernel

/-- Each test of EXTEND that fails, the last at the boundary. -/
theorem test_extend_refusals_witness :
    extendRefusal (shortened none) 9 = some .unknownCredential ∧
    extendRefusal (inMode (shortened none) .evacuating) 2 = some .state ∧
    extendRefusal ((shortened none).updatePermit 2 fun p => { p with state := .revoked }) 2 = some .state ∧
    extendRefusal { shortened none with clock := { floor.clock with status := .lost } } 2 = some .clock ∧
    extendRefusal (floorWith [{ occupant 2 .inside with uncovered := true }]) 2 = some .state ∧
    extendRefusal (floorWith [{ occupant 2 .inside with room := 1 }]) 2 = some .state ∧
    extendRefusal { shortened none with clock := { floor.clock with value := 172800 } } 2 = some .outsideWindow ∧
    extendRefusal (shortened (some 21)) 2 = some .noGain ∧ extendRefusal (shortened (some 22)) 2 = none ∧
    extendRefusal (floorWith [{ occupant 2 .inside with allowanceEnd := 92580 }]) 2 = some .noGain ∧
    extendRefusal (floorWith [{ occupant 2 .inside with allowanceEnd := 92579 }]) 2 = none := by decide +kernel

theorem test_release_witness :
    (framed (floorWith [occupant 2 .inside]) 26 7 (be 5 2)).record? 2 = some (occupant 2 .inside) ∧
    CommandTaken (framed (floorWith [occupant 2 .inside]) 26 7 (be 5 2)) 7 (.release 2) ∧
    (occupant 2 .inside).state ≠ .unaccounted ∧ (occupant 2 .unaccounted).state = .unaccounted ∧
    CommandTaken (framed (floorWith [occupant 2 .unaccounted]) 26 7 (be 5 2)) 7 (.release 2) ∧
    CommandTaken (framed (floorWith [occupant 2 .unaccounted]) 27 7 (1 :: be 5 2)) 7 (.accountCredential 2) ∧
    CommandTaken (framed (floorWith [occupant 2 .inside]) 27 7 (1 :: be 5 2)) 7 (.accountCredential 2) ∧
    CommandTaken (framed floor 26 7 (be 5 2)) 7 (.release 2) ∧ floor.record? 2 = none ∧
    CommandTaken (framed floor 27 7 (1 :: be 5 2)) 7 (.accountCredential 2) := by
  unfold CommandTaken; decide +kernel

/-- Room 0 in MUSTER with two records. -/
def mustered : State := inMode (floorWith [occupant 1 .unaccounted, occupant 2 .unaccounted]) .muster

theorem test_account_room_witness :
    mustered.personLaw ∧ (mustered.room 0).mode = .muster ∧ mustered.presentCount 0 = 2 ∧ mustered.part = .running ∧
    CommandTaken (framed mustered 27 7 [2, 0, 0, 0, 0, 0]) 7 (.accountRoom 0) ∧
    mustered.journal.length + mustered.presentCount 0 + 1 ≤ 256 ∧ (floor.room 0).mode ≠ .muster ∧
    CommandTaken (framed floor 27 7 [2, 16, 0, 0, 0, 0]) 7 (.accountRoom 16) ∧
    CommandTaken (framed floor 27 7 [2, 0, 0, 0, 0, 0]) 7 (.accountRoom 0) := by
  unfold State.personLaw State.notStarted CommandTaken; decide +kernel

theorem test_queries_witness :
    CommandTaken (framed floor 28 7 [1, 0, 0, 0, 0, 0]) 7 .queryStatus ∧
    CommandTaken (framed floor 28 7 [2, 0, 0, 0, 2, 0]) 7 (.queryPermit 2) ∧
    CommandTaken (framed floor 28 7 [3, 15, 255, 0, 0, 0]) 7 (.queryRosterRoom 15 255) ∧
    CommandTaken (framed floor 28 7 [4, 0, 16, 0, 0, 0]) 7 (.describeRoom 16) ∧
    CommandTaken (framed floor 28 7 [4, 1, 31, 0, 0, 0]) 7 (.describeDoor 31) ∧ decodeCommand 40 [1, 2] = none ∧
    floor.mayTake (isStoreKind 40) = true ∧ decodeCommand 17 [] = none ∧ floor.mayTake (isStoreKind 17) = true ∧
    firstOf (isStoreKind 17) (framed floor 17 7 []).link.places = some { kind := 17, tag := 7, payload := [] } := by
  unfold CommandTaken; decide +kernel

/-! ## Witnesses: batches -/

/-- The payload of a definition. -/
def payloadOf (d : PermitDef) : List Byte := encodePermit d

/-- Two definitions: a new permit of credential 5, and a replacement of permit 2. -/
def newDefn : PermitDef := (pass 5 5 .contractor .escort).defn

/-- Permit 2 with a budget. -/
def revised : PermitDef := { (pass 2 2 .contractor .noEscort).defn with budget := some 60 }

/-- An OPEN batch that has received both, with a command waiting. -/
def openBatch (b : Batch → Batch) (kind : Byte) (payload : List Byte) : State :=
  { framed floor kind 7 payload with
    batch := b { Batch.idle with
      phase := .opened, id := 9, declared := 2, received := 2, staging := [some newDefn, some revised], check := 0xABCD } }

theorem test_batch_witness :
    CommandTaken (framed floor 29 7 [0, 9, 1, 0]) 7 (.batchOpen 9 256) ∧
    CommandTaken (framed floor 29 7 [0, 9, 0, 0]) 7 (.batchOpen 9 0) ∧
    CommandTaken (openBatch id 30 (payloadOf newDefn)) 7 (.permit (payloadOf newDefn)) ∧
    CommandTaken (openBatch id 32 []) 7 .batchAbort ∧ CommandTaken (openBatch id 31 [0xAB, 0xCD]) 7 (.batchClose 0xABCD) ∧
    (openBatch id 31 [0xAB, 0xCD]).batch.phase = .opened ∧
    (openBatch (fun b => { b with kept := some (.linkCrc, 2) }) 31 [0xAB, 0xCD]).batch.kept = some (.linkCrc, 2) ∧
    (openBatch (fun b => { b with received := 1 }) 31 [0xAB, 0xCD]).batch.received < 2 ∧
    (openBatch (fun b => { b with overrun := true }) 31 [0xAB, 0xCD]).batch.overrun = true ∧
    (openBatch id 31 [0, 0]).batch.check ≠ 0 := by unfold CommandTaken; decide +kernel

/-- What holds at each place of a list, of the members before it and of the member at it, holds of each way to split it. -/
theorem of_places {α : Type} {p : List α → α → Prop} {l : List α} (h : ∀ i : Fin l.length, p (l.take i) l[i]) :
    ∀ before d after, l = before ++ d :: after → p before d := by
  rintro before d after rfl
  simpa using h ⟨before.length, by simp⟩

/-- A table of so many other permits, of this credential or of as many credentials, beside permit 2. -/
def tableOf (n : Nat) (one : Bool) : List Permit :=
  pass 2 2 .contractor .noEscort ::
    (List.range n).map fun i => pass (100 + i) (if one then 5 else 1000 + i) .contractor .noEscort

/-- Each table condition at its boundary (R15): a new number, and permit 2 revoked, and in use with another credential or
kind. -/
theorem test_table_refusals_witness :
    let inUse := floorWith [occupant 2 .inside]
    let two := (pass 2 2 .contractor .noEscort).defn
    tableRefusal floor (tableOf 1023 false) newDefn = some .full ∧ tableRefusal floor (tableOf 1022 false) newDefn = none ∧
    tableRefusal floor (tableOf 8 true) newDefn = some .credentialLimit ∧
    tableRefusal floor (tableOf 7 true) newDefn = none ∧
    tableRefusal floor (tableOf 8 true) { two with cred := 5 } = some .credentialLimit ∧
    tableRefusal floor (permitIn .revoked).permits two = some .revokedNumber ∧
    tableRefusal inUse floor.permits { two with cred := 5 } = some .credentialInUse ∧
    tableRefusal floor floor.permits { two with cred := 5 } = none ∧
    tableRefusal inUse floor.permits { two with kind := .escort } = some .kindInUse ∧
    stagedRefusal floor [newDefn] revised = none := by decide +kernel

/-- A batch whose second record fails, its first having passed; and a close that no open batch awaits. -/
theorem test_table_rejection_witness :
    let s := { openBatch id 31 [0xAB, 0xCD] with permits := (permitIn .revoked).permits }
    ReceivedWhole s 0xABCD ∧ s.permitLaw ∧ s.batch.phase = .opened ∧ CommandTaken s 7 (.batchClose 0xABCD) ∧
    s.batch.definitions = [newDefn] ++ revised :: [] ∧ stagedRefusal s [] newDefn = none ∧
    stagedRefusal s [newDefn] revised = some .revokedNumber ∧
    CommandTaken (framed floor 31 7 [0xAB, 0xCD]) 7 (.batchClose 0xABCD) ∧ floor.batch.phase ≠ .opened := by
  unfold ReceivedWhole State.permitLaw CommandTaken; decide +kernel

theorem test_batch_applied_witness :
    let s := openBatch id 31 [0xAB, 0xCD]
    s.queueLaw ∧ s.permitLaw ∧ ReceivedWhole s 0xABCD ∧
    (s.batch.definitions.map fun d => d.number).Nodup ∧
    (∀ d ∈ s.batch.definitions, s.occupantOf? d.number = none) ∧
    (∀ d ∈ s.batch.definitions, d.number ≠ 3) := by
  unfold State.queueLaw State.permitLaw ReceivedWhole; decide +kernel

/-- Both records of the batch pass the table conditions. -/
theorem test_batch_passes_witness :
    let s := openBatch id 31 [0xAB, 0xCD]
    ∀ before d after, s.batch.definitions = before ++ d :: after → stagedRefusal s before d = none :=
  of_places (by decide +kernel)

/-- An OPEN batch of this one record, these occupants, and its CLOSE waiting. -/
def oneRecord (d : PermitDef) (l : List Occupant) : State :=
  { openBatch (fun b => { b with declared := 1, received := 1, staging := [some d] }) 31 [0xAB, 0xCD] with roster := l }

/-- Permit 3 without the escort requirement, permit 1 for room 1 alone. -/
theorem test_batch_of_one_in_use_witness :
    let s := oneRecord { (pass 3 3 .contractor .escort).defn with requirement := .noEscort } escorted.roster
    s.batch.definitions = [{ (pass 3 3 .contractor .escort).defn with requirement := .noEscort }] ∧ ReceivedWhole s 0xABCD ∧
    stagedRefusal s [] { (pass 3 3 .contractor .escort).defn with requirement := .noEscort } = none ∧
    s.permit? 3 = some (pass 3 3 .contractor .escort) ∧ s.occupantOf? 3 = some { occupant 3 .inside with coveredBy := some 1 } ∧
    s.personLaw ∧ s.queueLaw ∧ s.permitLaw ∧ CommandTaken s 7 (.batchClose 0xABCD) ∧ s.batch.phase = .opened ∧
    stagedRefusal s [] { (pass 1 1 .escort .noEscort).defn with rooms := 2 } = none := by
  unfold State.personLaw State.notStarted State.queueLaw State.permitLaw CommandTaken ReceivedWhole; decide +kernel

/-! ## Witnesses: the clock and the deadline queue -/

theorem test_clock_witness :
    (∀ e ∈ busy.deadlines, busy.now < e.due) ∧ busy.clock.status = .set ∧
    ({ floor.clock with elapsed := 3686399 } : Clock).elapsed < 3686400 ∧
    ({ floor.clock with status := .lost, elapsed := 3686400 } : Clock).status ≠ .set := by decide +kernel

theorem test_due_witness :
    busy.deadlineLaw ∧ busy.personLaw ∧ busy.standLaw ∧ busy.now < 4294967295 :=
  ⟨test_deadline_law_witness, test_person_law_witness, test_stand_law_witness, by decide +kernel⟩

/-- Credential 2 in room 0 with this allowance end and stage, its STAY entry due now. -/
def stayDue (ae : Nat) (st : Stage) : State :=
  dueNow (floorWith [{ occupant 2 .inside with allowanceEnd := ae, stage := st }]) (.stay 2)

/-- Boundaries of the four stages: DUE, OVER and ALARM reached, and a stage kept. -/
theorem test_stay_witness :
    HeadDue (stayDue 90300 .within) (.stay 2) 90000 [] ∧
    (stayDue 90300 .within).record? 2 = some { occupant 2 .inside with allowanceEnd := 90300 } ∧
    [(90300, Stage.within), (90000, .due), (89400, .overstay), (90301, .within)].map
      (fun x => laterStage x.2 (stageAt 90000 x.1 10)) = [.due, .overstay, .alarm, .within] := by
  unfold HeadDue; decide +kernel

theorem test_arrive_witness :
    HeadDue (dueNow (floorWith [occupant 2 .arriving]) (.arrive 2)) (.arrive 2) 90000 [] ∧
    (dueNow (floorWith [occupant 2 .arriving]) (.arrive 2)).record? 2 = some (occupant 2 .arriving) := by
  unfold HeadDue; decide +kernel

theorem test_pair_entry_witness :
    let s := dueNow (waiting floor 0 3 { escort := true, partner := false }) (.pair 0)
    HeadDue s (.pair 0) 90000 [] ∧
    s.pairing 0 = some { cred := 3, need := { escort := true, partner := false }, time := 90000 } ∧
    s.door 0 = some { room := 0, port := 0 } := by unfold HeadDue; decide +kernel

theorem test_check_entry_witness :
    HeadDue (dueNow (alone true) (.check 2)) (.check 2) 90000 [] ∧ HeadDue (dueNow (alone false) (.check 2)) (.check 2) 90000 [] ∧
    (dueNow (alone true) (.check 2)).record? 2 = some { occupant 2 .inside with loneAlarm := true } ∧
    (dueNow (alone false) (.check 2)).record? 2 = some (occupant 2 .inside) ∧
    ((alone false).doorsOfRoom 0).length + 5 ≤ (alone false).uncommitted 0 := by unfold HeadDue; decide +kernel

/-- The start of day 9, with permit 2's window ended seven days before and permit 4 in use. -/
def ninthDay : State :=
  { floorWith [occupant 4 .inside] with
    clock := { floor.clock with value := 777600 }, deadlines := [{ due := 777600, owner := .day }] }

theorem test_day_witness :
    ninthDay.queueLaw ∧ ninthDay.permitLaw ∧ HeadDue ninthDay .day 777600 [] ∧
    (ninthDay.permits.map (purgeable ninthDay)) = [true, true, true, false] ∧
    (ninthDay.permits.filter (purgeable ninthDay)).length ≤ 32 - ninthDay.store.queue.length ∧
    86400 * (ninthDay.now / 86400 + 1) ≤ 4294967295 := by unfold State.queueLaw State.permitLaw HeadDue; decide +kernel

/-! ## Witnesses: inputs and the muster port -/

/-- The floor whose EVAC line has this held level and candidate, an evacuation running while it is ACTIVE. -/
def line (held : EvacLevel) (candidate : Option EvacLevel) : State :=
  { floor with evac := { floor.evac with held := held, candidate := candidate, active := decide (held = .active) } }

theorem test_line_witness :
    (line .inactive none).personLaw ∧ (line .inactive none).evacLaw ∧ (line .active (some .inactive)).evacLaw ∧
    (line .inactive none).part = .running ∧ (line .inactive none).evac.samples = 2 ∧
    (EvacLevel.active ≠ (line .inactive none).evac.held) ∧ (line .inactive none).evac.candidate ≠ some .active ∧
    (line .inactive (some .active)).evac.candidate = some .active ∧ (line .inactive (some .active)).evac.hold = false ∧
    (line .active (some .inactive)).evac.carryOver = false ∧ evacuated.evac.hold = true := by
  unfold State.personLaw State.evacLaw State.notStarted; decide +kernel

/-- A carry-over whose second sample comes now, the line at this level. -/
def carried (held : EvacLevel) (candidate : Option EvacLevel) : State :=
  { line held candidate with
    evac := { (line held candidate).evac with samples := 1, carryOver := true, active := true } }

theorem test_carry_over_witness :
    (carried .inactive none).personLaw ∧ (carried .inactive none).evacLaw ∧ (carried .inactive (some .active)).evacLaw ∧
    (carried .inactive none).part = .running ∧ (carried .inactive none).evac.samples = 1 ∧
    (carried .inactive none).evac.carryOver = true ∧ (carried .inactive none).evac.held = .inactive ∧
    (carried .inactive none).evac.hold = false ∧ (carried .inactive (some .active)).evac.candidate = some .active := by
  unfold State.personLaw State.evacLaw State.notStarted; decide +kernel

/-- An occupied room whose channel has had two conversions of another class. -/
def aboutToChange (held next : HeldClass) (first : Bool) : State :=
  let s := floorWith [occupant 2 .inside]
  s.setChannel 0 { held := some held, candidate := some (next, 2), lastValue := none, fromStart := first }

/-- One room's held class changes: a loss, a first change after start-up, and a return. -/
theorem test_class_change_witness :
    let scan (v : Nat) (s : State) := after (.isolationScan (.replicate 16 (BitVec.ofNat 10 v))) s
    (aboutToChange .active .inactive false).part = .running ∧
    ((scan 400 (aboutToChange .active .inactive false)).channel 0).held = some .inactive ∧
    ((scan 99 (aboutToChange .unknown .short true)).channel 0).held = some .short ∧
    ((scan 399 (aboutToChange .openLoop .active false)).channel 0).held = some .active ∧
    (∀ x : RoomId, x ≠ 0 → ((scan 400 (aboutToChange .active .inactive false)).channel x).held =
      ((aboutToChange .active .inactive false).channel x).held) := by decide +kernel

/-- The muster port with a selector of room 0. -/
def selected (s : State) (kind ordinal : Byte) : State :=
  { s with muster := { s.muster with kind := kind, room := 0, ordinal := ordinal } }

/-- Each answer of a read (R160, R161, R162). -/
theorem test_muster_replies :
    let of (kind room : Byte) (s : State) : List Byte :=
      (musterReply { s with muster := { s.muster with kind := kind, room := room } }).take 2
    of 1 0 floor = [0, 1] ∧ of 1 15 floor = [4, 0] ∧ of 1 16 floor = [3, 0] ∧ of 2 255 floor = [3, 0] ∧ of 2 0 floor = [1, 0] ∧
    of 4 15 floor = [1, 0] ∧ of 4 16 floor = [3, 0] ∧ of 0 16 floor = [5, 0] ∧ of 5 0 floor = [5, 0] ∧
    of 0 0 State.reset = [6, 0] ∧ of 3 0 { floor with part := .lowPower } = [7, 0] ∧
    of 3 0 (after (.accountRoom 0x4C 0 0) mustered) = [0, 2] ∧ of 3 16 (after (.accountRoom 0x4C 16 0) floor) = [3, 0] := by
  decide +kernel

theorem test_muster_witness :
    State.reset.part = .starting ∧ (1 : Byte) ≠ 3 ∧ (0x4D : BitVec 7) ≠ floor.muster.address ∧
    ([3, 0] : List Byte).length < 3 ∧ (selected mustered 1 0).part = .running ∧
    (selected mustered 1 0).muster.room.toNat = (0 : RoomId).val ∧ (selected mustered 1 0).muster.kind = 1 ∧
    (mustered.room 0).settings.inUse = true ∧ (selected mustered 2 1).muster.kind = 2 ∧ (selected mustered 4 2).muster.kind = 4 ∧
    (mustered.unaccountedIn 0).length = 2 ∧ (mustered.inRoom 0)[2]? = none := by decide +kernel

/-! ## Witnesses: the store, the supply and start-up -/

/-- The floor with an operation in flight. -/
def inFlight (op : FlashOp) : State := { floor with store := { floor.store with engine := some op } }

/-- The floor with a stale slot's retirement in flight, over so much of the store. -/
def engineAt (f : Store → Store) : State :=
  { floor with store := f { floor.store with engine := some (.retireStale 1535) } }

/-- 1473 slots in use, so that 63 are ERASED: pages 7 and 9 are RETIRED whole, the others WRITTEN. -/
def crowded (st : Store) : Store :=
  { st with slots := (List.range 1473).map fun a =>
      (a, if a / 32 = 7 ∨ a / 32 = 9 then Slot.retired else .written (.door 0 none) a true) }

/-- Compaction is wanted with 63 slots ERASED and takes the lower of the pages with the most RETIRED slots, and with a DIRTY
page it takes that (R182). -/
theorem test_compaction_takes_its_page :
    compactionDue (engineAt crowded) ∧ (after .flashOperationComplete (engineAt crowded)).store.engine = some (.mark 7) ∧
    (after .flashOperationComplete (engineAt fun st => { crowded st with dirty := [9] })).store.engine = some (.erase 9) := by
  unfold compactionDue; decide +kernel

/-- Each of the engine's requesters has an operation in some state that a completed operation leaves (R183). -/
theorem test_engine_witness :
    let left (s : State) : State := operationDone s (.retireStale 1535)
    let copying := left (engineAt fun st => { st with
      slots := [(5, .written (.door 0 none) 1 true)], compaction := some { page := 0, todo := [5], marked := false } })
    let idle := left (engineAt fun st => { st with queue := [retireOf (.room 5), writeOf (.door 31 none)] })
    let asked := left { engineAt id with snap := { SnapArea.blank with
      erased := .replicate 4 false, eraseRequested := true } }
    copying.part = .running ∧ copying.snap.writer = [] ∧
    (∀ a ∈ [5], ∃ d q ok, slotAt copying.store.slots a = some (.written d q ok)) ∧
    (∃ b < 1536, b / 32 ≠ 0 ∧ b / 32 ∉ copying.store.dirty ∧ slotAt copying.store.slots b = none) ∧
    idle.store.compaction = none ∧ ¬ compactionDue idle ∧ HeadSlotless idle ∧ ¬ HeadSlotless (headDone idle) ∧
    ¬ compactionDue asked ∧ ¬ HeadSlotless asked ∧ asked.store.queue = [] ∧ asked.snap.eraseRequested = true ∧
    asked.snap.erased.get 0 = false ∧
    ({ left (engineAt fun st => { st with toRetire := [3] }) with part := .starting } : State).store.toRetire = [3] := by
  refine ⟨by decide +kernel, by decide +kernel, ?_, ⟨32, by decide +kernel⟩, by decide +kernel,
    by unfold compactionDue; decide +kernel, ⟨retireOf (.room 5), by decide +kernel, .room 5, rfl, by decide +kernel⟩, ?_,
    by unfold compactionDue; decide +kernel, ?_, by decide +kernel, by decide +kernel, by decide +kernel, by decide +kernel⟩
  · intro a h; obtain rfl := List.mem_singleton.1 h; exact ⟨.door 0 none, 1, true, by decide +kernel⟩
  · rintro ⟨e, he, k, hk, -⟩; cases he; cases hk
  · rintro ⟨e, he, -⟩; cases he

theorem test_flash_witness :
    floor.store.engine = none ∧ (inFlight (.program 0 (.door 0 none) 1)).store.engine = some (.program 0 (.door 0 none) 1) ∧
    (inFlight (.retire 1535)).store.engine = some (.retire 1535) ∧ (inFlight (.erase 47)).store.engine = some (.erase 47) ∧
    (inFlight (.retireStale 0)).store.engine = some (.retireStale 0) := by decide +kernel

/-- The head entry's retirement completes, as the last write of an applied batch: its permit's flag is cleared, BATCH_DONE
APPLIED waits, the machine is IDLE, and the engine goes on with the next entry (R182, R175, R183). -/
theorem test_last_write_of_a_batch :
    let s : State :=
      { floor.updatePermit 2 (fun p => { p with storePending := true }) with
        store := { floor.store with
          slots := [(0, .written (.permit revised .active) 1 true), (1, .written (.permit revised .active) 2 true)], seq := 3
          queue := [{ job := .version (.permit revised .active), fromBatch := true }, writeOf (.door 31 none)]
          headPrevious := some 0, engine := some (.retire 0) }
        batch := { Batch.idle with phase := .applying, id := 9, closeTag := 7, applied := 2, remaining := 1 } }
    let t := after .flashOperationComplete s
    t.link.replies = [.batchDone 7 9 none 2] ∧ t.batch = .idle ∧ t.store.queue = [writeOf (.door 31 none)] ∧
      (t.permit? 2).map (·.storePending) = some false ∧ slotAt t.store.slots 0 = some .retired ∧
      t.store.engine = some (.program 2 (.door 31 none) 3) := by decide +kernel

/-- LOW_POWER after a warning, taken while RUNNING or not. -/
def warned (running : Bool) : State := { floor with part := .lowPower, supply := .warning, warnedRunning := running }

theorem test_supply_witness :
    busy.slotLaw ∧ busy.part = .running ∧ (∀ k : Fin 4, busy.snap.erased.get k = true) ∧
    (∃ k : Fin 4, ({ SnapArea.blank with erased := SnapArea.blank.erased.set 3 false } : SnapArea).erased.get k = false) ∧
    State.reset.part = .starting ∧ (warned true).part = .lowPower ∧ (warned false).warnedRunning = false ∧
    (warned true).warnedRunning = true ∧ (∀ e ∈ (warned true).deadlines, (warned true).now < e.due) ∧
    LostNotOwed (warned true) ∧ StartUpSettled (warned false) :=
  ⟨test_store_laws_witness.2, by decide +kernel, by decide +kernel, ⟨3, by decide +kernel⟩, by decide +kernel,
    by decide +kernel, by decide +kernel, by decide +kernel, by decide +kernel, by unfold LostNotOwed; decide +kernel,
    by unfold StartUpSettled; decide +kernel⟩

/-- A warning abandons an erase in flight: its page stays DIRTY, the job in hand is given up, and a busy engine keeps its
program while the snapshot waits (R184). -/
theorem test_warning_abandons_an_erase :
    let t := after .lowVoltageWarning (erasing 3)
    t.store.dirty = [3] ∧ t.store.compaction = none ∧ t.store.engine = some (.snapProgram (snapshotOf (erasing 3))) ∧
      t.snap.writer = [.snapValid] ∧
      (after .lowVoltageWarning (inFlight (.program 0 (.door 0 none) 1))).store.engine = some (.program 0 (.door 0 none) 1) := by
  decide +kernel

/-- LOW_POWER with the snapshot's program made and its valid mark still to be programmed. -/
theorem test_snapshot_begun_witness :
    let s := { warned true with snap := { SnapArea.blank with begun := true, writer := [.snapValid] } }
    s.part = .lowPower ∧ s.snap.begun = true ∧ (∀ op ∈ s.snap.writer, op.snapshot? = none) := by decide +kernel

/-- STARTING, with the floor's tables and a valid snapshot of two records. -/
def starting : State :=
  { floor with
    part := .starting
    snap := { SnapArea.blank with
      erased := .replicate 4 false, valid := true
      content := some (snapshotOf (floorWith [occupant 1 .inside, occupant 2 .arriving])) } }

/-- The floor, STARTING and restored, with an evacuation held or not. -/
def settled (hold : Bool) : State :=
  { floor with part := .starting, restored := true, evac := { floor.evac with hold := hold } }

theorem test_start_up_witness :
    State.reset.part = .starting ∧ State.reset.restored = false ∧ State.reset.snap.valid = false ∧
    State.reset.store.engine = none ∧ State.reset.store.toRetire = [] ∧ State.reset.evac.called = false ∧
    (∀ e ∈ State.reset.deadlines, State.reset.now < e.due) ∧ LostNotOwed State.reset ∧
    (inFlight (.retireStale 3)).store.engine ≠ none ∧ starting.part = .starting ∧ starting.restored = false ∧
    starting.snap.valid = true ∧ starting.snap.consumed = false ∧
    starting.snap.content = some (snapshotOf (floorWith [occupant 1 .inside, occupant 2 .arriving])) ∧
    ((snapshotOf (floorWith [occupant 1 .inside, occupant 2 .arriving])).records.map fun x => x.1.cred).Nodup := by
  unfold LostNotOwed; decide +kernel

/-- A room restored in MUSTER with no record left takes its prior mode, with ROOM_MODE (MUSTER_CLEARED) and no notice
(R159). -/
theorem test_start_up_clears_an_empty_muster :
    let s := { starting with snap := { starting.snap with content := some (snapshotOf (inMode floor .muster)) } }
    let t := after .startupRunning s
    (t.journal.map fun j => j.entry) =
      [{ kind := .roomMode, room := some 0, detail := .musterCleared .muster .inService }] ∧
    (t.room 0).mode = .inService ∧ t.ports = s.ports := by decide +kernel

/-- Both records of the snapshot stand, and the room has places for both. -/
theorem test_standing_witness :
    (standing starting (snapshotOf (floorWith [occupant 1 .inside, occupant 2 .arriving]))).map (fun x => x.1.cred) = [1, 2] ∧
    (starting.room 0).settings.maxOccupancy = 4 := by decide +kernel

theorem test_settled_witness :
    (settled true).part = .starting ∧ (settled true).restored = true ∧ StartUpSettled (settled true) ∧
    (settled true).evac.called = true ∧ (settled true).personLaw ∧ (∀ e ∈ (settled true).deadlines, (settled true).now < e.due) ∧
    LostNotOwed (settled true) ∧ (settled false).evac.called = false ∧
    (∀ e ∈ (settled false).deadlines, (settled false).now < e.due) ∧ LostNotOwed (settled false) ∧
    (settled false).personLaw ∧ (settled false).now < 4294967295 ∧
    ¬ StartUpSettled { settled false with store := { floor.store with toRetire := [3] } } := by
  unfold StartUpSettled LostNotOwed State.personLaw State.notStarted; decide +kernel

theorem test_settled_laws_witness : (settled false).deadlineLaw ∧ (settled false).standLaw := by
  refine ⟨by unfold State.deadlineLaw deadlinesSorted deadlinesDistinct State.dayLaw; decide +kernel,
    by decide +kernel, by unfold Snapshot.standLaw; decide +kernel, ?_, ?_, ?_⟩
  · exact fun e he => (List.not_mem_nil he).elim
  · exact fun e he => (List.not_mem_nil he).elim
  · exact fun _ _ e he => (List.not_mem_nil he).elim

/-! ## Single steps -/

/-- A record snapshot while ARRIVING is restored INSIDE; the part waits for the consumed mark, then is RUNNING (R186). -/
theorem test_start_up_restores_two :
    let t := after .startupRunning starting
    (t.roster.map fun o => (o.cred, o.state)) = [(1, .inside), (2, .inside)] ∧ t.part = .starting ∧
      (after .startupRunning (after .flashOperationComplete t)).part = .running := by decide +kernel

/-- The repair of cover and the stages at start-up: an escort that covered two under a limit of one keeps the first, the other
is marked; a record whose allowance end has come is OVER, and each takes its STAY entry (R135, R116). -/
def coveredSnapshot : Snapshot :=
  snapshotOf (floorWith [{ occupant 1 .inside with covers := [3, 4] },
    { occupant 3 .inside with coveredBy := some 1, allowanceEnd := 90000, stage := .due },
    { occupant 4 .inside with coveredBy := some 1 }])

theorem test_start_up_repairs_cover :
    let s := { starting with backupLost := false, snap := { starting.snap with content := some coveredSnapshot } }
    let t := after .startupRunning s
    (t.roster.map fun o => (o.covers, o.coveredBy, o.uncovered)) =
      [([3], none, false), ([], some 1, false), ([], none, true)] ∧
    (t.roster.map fun o => o.stage) = [.within, .overstay, .within] ∧
    (t.journal.map fun j => j.entry.kind) = [.stayOver] ∧
    (t.deadlines.map fun e => (e.due, e.owner)) = [(90600, .stay 3), (91700, .stay 1), (91700, .stay 4)] := by
  decide +kernel

theorem test_start_up_cover_witness :
    (∀ e ∈ starting.deadlines, e.owner = .day) ∧ (coveredSnapshot.records.map fun x => x.1.cred).Nodup ∧
    starting.journal.length + 16 + coveredSnapshot.records.length ≤ 256 ∧
    Stage.due.rank < Stage.overstay.rank := by decide +kernel

/-- A reset after the consumed mark and before RUNNING: the snapshot is no longer valid, and the roster is lost (R186). -/
theorem test_consumed_snapshot_is_not_restored_again :
    let t := after .flashOperationComplete (after .startupRunning starting)
    ((after .startupRunning (after (.deviceReset .lowVoltage false) t)).journal.map fun j => j.entry.kind) =
      [.start, .rosterLost] := by decide +kernel

/-- A warning, a recovery and a second warning while the first snapshot is being programmed: the second writes none (R184). -/
theorem test_second_warning_skips_its_snapshot :
    let t := after .lowVoltageWarning (after .supplyRecovered (after .lowVoltageWarning floor))
    (t.journal.map fun j => j.entry.kind) = [.snapshotSkipped] ∧ t.snap.writer = [.snapConsumed] := by decide +kernel

/-- A batch stages permit 1 twice, its limit first 1 then 2: of its two contractors the one cut off does not return to it
(R20, R121). -/
theorem test_cut_contractor_does_not_return :
    let wide : PermitDef := { (pass 1 1 .escort .noEscort).defn with coverLimit := some 2 }
    let s := openBatch (fun b => { b with staging := [some (pass 1 1 .escort .noEscort).defn, some wide] }) 31 [0xAB, 0xCD]
    let t : State :=
      { s.updatePermit 1 (fun p => { p with defn := wide }) with
        roster := [{ occupant 1 .inside with covers := [3, 4] }, { occupant 3 .inside with coveredBy := some 1 },
          { occupant 4 .inside with coveredBy := some 1 }] }
    ((after (.batchClose 7 0xABCD) t).roster.map fun o => (o.cred, o.covers, o.uncovered)) =
      [(1, [3], false), (3, [], false), (4, [], true)] := by decide +kernel

/-- The change to LOST is owed: the STAY entry waits, and CLOCK_SECOND makes the change first (R45). -/
theorem test_lost_comes_before_due_entries :
    let s := stayDue 90300 .within
    let owed : State := { s with clock := { s.clock with elapsed := 3686400 } }
    after (.stayEntry 2) owed = owed ∧
      ((after .clockSecond owed).clock.status, (after .clockSecond owed).roster.map (·.stage)) = (.lost, [.due]) := by
  decide +kernel

/-- REVOKE of the escort's permit: 600 s for the escort, and its contractor uncovered with 300 s (R11, R12, R123). -/
theorem test_revoke_of_an_escort :
    ((after (.revoke 7 1) escorted).roster.map fun o => (o.cred, o.allowanceEnd, o.uncovered)) =
      [(1, 90600, false), (3, 90300, true)] := by decide +kernel

/-- A record in ALARM, its allowance end past and a backward mark having brought now before the alarm's boundary, is revoked:
the notice and the record alone, and it stays in ALARM (R105, R108). -/
theorem test_alarm_stays_when_curtailed :
    let s := floorWith [{ occupant 2 .inside with allowanceEnd := 90000, stage := .alarm }]
    let t := after (.revoke 7 2) (framed s 19 7 (num4 2))
    (t.roster.map fun o => (o.allowanceEnd, o.stage)) = [(90000, .alarm)] ∧ t.deadlines = s.deadlines ∧
      (t.journal.map fun j => j.entry.kind) = [.permitsApplied, .curtailed] ∧
      (t.port 0).queue.length = 1 := by decide +kernel

/-- So does one whose allowance end a backward mark has left after now (R105, R108, R123). -/
theorem test_alarm_stays_before_its_end :
    let s := floorWith [{ occupant 2 .inside with allowanceEnd := 91000, stage := .alarm }]
    let t := after (.revoke 7 2) (framed s 19 7 (num4 2))
    (t.roster.map fun o => (o.allowanceEnd, o.stage)) = [(91000, .alarm)] ∧ t.deadlines = s.deadlines ∧
      (t.journal.map fun j => j.entry.kind) = [.permitsApplied, .curtailed] := by decide +kernel

/-- The worked example of 6.7: K2 WITHIN, its escort gone, is curtailed to 300 s on and DUE, with CURTAILED and then STAY_DUE
at the door, and its STAY entry stands at the allowance end (R107, R108). -/
theorem test_curtailed_record_falls_due :
    let s := floorWith [{ occupant 2 .inside with uncovered := true }]
    let t := curtailedAs .escortLoss 300 s 2
    t = s.curtail .escortLoss 300 2 ∧ (t.roster.map fun o => (o.allowanceEnd, o.stage)) = [(90300, .due)] ∧
      (t.port 0).queue = [.notice 0 0 { kind := .curtailed, cred := some 2, time := 90300, detail := .reason .escortLoss },
        .notice 0 0 { kind := .stayDue, cred := some 2, time := 90300 }] ∧
      t.deadlines = [{ due := 90300, owner := .stay 2 }] := by decide +kernel

/-- An OUT by the covering escort: the contractor is uncovered and curtailed (R101, R123). -/
theorem test_escort_leaves :
    let t := after (.presentOut 0 (frameOf 2 0 (be 5 1) [])) escorted
    (t.roster.map fun o => (o.cred, o.allowanceEnd, o.uncovered)) = [(3, 90300, true)] ∧
      (t.journal.map fun j => j.entry.kind) = [.exit, .escortLoss, .curtailed] := by decide +kernel

/-- An exit at 90,000 of a stay charged from 89,000: 1,000 s are 17 minutes (R102). -/
theorem test_exit_charges_seventeen_minutes :
    ((after (.presentOut 0 (frameOf 2 0 (be 5 2) [])) (floorWith [occupant 2 .inside])).permit? 2).map (·.used) = some 17 := by
  decide +kernel

/-- READ of the GRANT item: kind, door, credential, GRANT, 60 minutes, no flag (13.2). -/
theorem test_read_shifts_the_grant :
    let t := after (.presentIn 0 (frameOf 1 0 (be 5 2) [])) floor
    ((after (.read 0 (frameOf 6 0 [] (List.replicate 16 0))) t).port 0).lastShift.take 15 =
      [1, 0, 0, 0, 0, 0, 2, 1, 0, 60, 0, 0, 0, 0, 0] := by decide +kernel

/-- Three conversions of one class make it the held class, the second does not (R139). -/
theorem test_three_conversions :
    let on := floor.setRoom 0 { floor.room 0 with settings := { (floor.room 0).settings with isolationRequired := true } }
    let s := on.setChannel 0 { held := some .unknown, candidate := none, lastValue := none, fromStart := false }
    let t := after (.isolationScan (.replicate 16 200)) (after (.isolationScan (.replicate 16 200)) s)
    (t.channel 0).held = some .unknown ∧ (after (.isolationScan (.replicate 16 200)) t).isolation 0 = .confirmed := by
  decide +kernel

/-- Room 0 with isolation required, its loop not confirmed, and a first presenter waiting at door 0. -/
def unconfirmed : State :=
  let on := floor.setRoom 0 { floor.room 0 with settings := { (floor.room 0).settings with isolationRequired := true } }
  waiting (on.setChannel 0 { held := some .inactive, candidate := none, lastValue := some 500, fromStart := false }) 0 3
    { escort := true, partner := false }

/-- A second presenter refused ISOLATION where step 11 would refuse the first as well: the slot ends with the first's REFUSE
ISOLATION (R141), or is left as it was (R83), as the free value has it. -/
theorem test_isolation_refusal_of_both :
    laterRefusal unconfirmed 0 2 = some (.isolation, none) ∧ laterRefusal unconfirmed 0 3 = some (.isolation, none) ∧
    unconfirmed.firstAtRefusal false 0 0 .isolation = unconfirmed ∧
    (let t := unconfirmed.firstAtRefusal true 0 0 .isolation
     (t.port 0).queue = [.decision 0 3 (.refuse .isolation)] ∧ t.pairing 0 = none ∧ t.deadlines = []) := by decide +kernel

/-- A first presenter that an earlier step refuses keeps its slot in either case (R83). -/
theorem test_isolation_refusal_leaves_another_pairing :
    let s := unconfirmed.updatePermit 3 fun m => { m with state := .suspended }
    let t := after (.presentIn 0 (frameOf 1 0 (be 5 2) [])) s
    t.pairing 0 = s.pairing 0 ∧ t.deadlines = s.deadlines ∧
    (t.port 0).queue = [.decision 0 2 (.refuse .isolation)] := by decide +kernel

/-- A second presenter refused for another reason leaves the slot and its PAIR entry as they were (R83). -/
theorem test_other_refusal_leaves_a_waiting_pairing :
    let t := after (.presentIn 0 (frameOf 1 0 (be 5 9) [])) unconfirmed
    t.pairing 0 = unconfirmed.pairing 0 ∧ t.deadlines = unconfirmed.deadlines ∧
    (t.port 0).queue = [.decision 0 9 (.refuse .unknownCredential)] := by decide +kernel

/-- A ROOM_SET that disables a channel discards its held class and keeps its most recent conversion (R136, R147). -/
theorem test_disabled_channel_keeps_its_conversion :
    let s := { unconfirmed with pairings := floor.pairings, deadlines := [] }
    let t := after (.roomSet 7 0 (settingsOf 1 5 0 0)) (framed s 21 7 (roomSetBytes 0 (settingsOf 1 5 0 0)))
    t.channel 0 = { held := none, candidate := none, lastValue := some 500, fromStart := false } ∧
    channelFields (t.channel 0) = [0, 1, 244] := by decide +kernel

/-- The store with permit 1 in slot 0, and an operation in flight. -/
def resetDuring (op : FlashOp) : State :=
  { floor with store := { floor.store with
      slots := [(0, .written (.permit goodDefn .active) 4 true)], engine := some op } }

/-- A removal whose retirement is in flight at a device reset is lost (R7, R26), and so is a permit being written. -/
theorem test_retirement_in_flight_is_lost :
    let t (op : FlashOp) := after (.deviceReset .lowVoltage false) (resetDuring op)
    (t (.retire 0)).store.slots = (resetDuring (.retire 0)).store.slots ∧
    ((t (.retire 0)).permits.map fun m => (m.defn, m.state)) = [(goodDefn, .active)] ∧
    ((t (.program 1 (.permit { goodDefn with number := 2 } .active) 5)).permits.map fun m => m.defn.number) = [1] := by
  decide +kernel

/-- A start of evacuation turns rooms in use EVACUATING and freezes an ARRIVING record; a first presenter receives REFUSE EVAC
before its door's EVAC_RELEASE, and the door of a room not in use receives nothing (R150, R151). -/
theorem test_evacuation_starts :
    let t := after (.evacuateStart 7)
      (framed (waiting (floorWith [occupant 2 .arriving]) 0 3 { escort := true, partner := false }) 24 7 [1])
    (t.room 0).mode = .evacuating ∧ (t.room 2).mode = .closed ∧
      (t.roster.map fun o => (o.state, o.evacTime, o.arrivalOpen)) = [(.inside, some 90000, true)] ∧
      (t.port 0).queue = [.decision 0 3 (.refuse .evac), .notice 0 0 { kind := .evacRelease }] ∧
      (t.port 1).queue = [.notice 1 1 { kind := .evacRelease }] ∧
      (t.journal.map fun j => j.entry.kind) = [.evacStart, .refuse] := by decide +kernel

/-- Its end: UNACCOUNTED in a room in MUSTER, which its door is told (R156). -/
theorem test_evacuation_ends :
    let t := after (.evacuateEnd 7) (framed evacuated 24 7 [2])
    (t.room 0).mode = .muster ∧ (t.roster.map (·.state)) = [.unaccounted] ∧
      (t.port 0).queue = [.notice 0 0 { kind := .evacEnd, detail := .mode .muster }] := by decide +kernel

/-- A room brought into use while an evacuation is active joins it, and its door is told (R152). -/
theorem test_room_joins_an_evacuation :
    let t := after (.roomSet 7 2 (settingsOf 1 5 0 0)) (framed evacuated 21 7 (roomSetBytes 2 (settingsOf 1 5 0 0)))
    (t.room 2).mode = .evacuating ∧ (t.room 2).prior = .closed ∧
      (t.port 0).queue = [.notice 2 2 { kind := .evacRelease }] := by decide +kernel

/-- RUNNING again with the hold restored: every room in use is taken, its doors told (R159). -/
theorem test_evacuation_resumed_at_running :
    let t := after .startupRunning (settled true)
    (t.room 0).mode = .evacuating ∧ (t.port 0).queue = [.notice 0 0 { kind := .evacRelease }] ∧
      (t.journal.map fun j => j.entry.kind) = [.evacStart] := by decide +kernel

/-- A room accounted at the panel: the kept answer holds 2, and the room is IN_SERVICE again (R162). -/
theorem test_panel_accounts_a_room :
    let t := after (.accountRoom 0x4C 0 0) mustered
    t.roster = [] ∧ (t.room 0).mode = .inService ∧ t.muster.kept = some [0, 2, 0, 0, 0, 0, 0, 0] ∧
      (t.port 0).queue = [.notice 0 0 { kind := .musterCleared }] := by decide +kernel

/-- The day entry moves a charge start to the midnight and zeroes used-today (R22, R103). -/
theorem test_day_moves_charge_starts :
    ((after .dayEntry ninthDay).roster.map (·.chargeStart)) = [777600] := by decide +kernel

/-- Three permits due and two free places: the two lowest numbers go, the third stays (the worked example of 1.5, R23). -/
theorem test_purge_cut_short :
    let s := { ninthDay with
      permits := ninthDay.permits.reverse
      store := { ninthDay.store with
        queue := .replicate 30 (writeOf (.door 0 none)), engine := some (.program 0 (.door 0 none) 1) } }
    let t := after .dayEntry s
    (t.permits.map fun m => m.defn.number) = [4, 3] ∧
      t.store.queue.drop 30 = [retireOf (.permit 1), retireOf (.permit 2)] ∧
      (t.journal.map fun j => (j.entry.kind, j.entry.permit)) = [(.purged, some 1), (.purged, some 2)] := by decide +kernel

/-- The layouts of R188: DESCRIBE of room 0 and of door 2, the STATUS reply's 91 bytes and a ROSTER_ROOM reply's 69. -/
theorem test_reply_layouts :
    roomReply floor 0 = [0, 1, 4, 0, 60, 5, 10, 1, 1, 0, 1, 0, 1] ∧ doorReply floor 2 = [2, 2, 0] ∧
    doorReply floor 3 = [3, 255, 255] ∧ (statusReply floor).length = 91 ∧ (rosterReply floor 0 0).length = 69 ∧
    (rosterReply mustered 0 1).length = 69 ∧ (permitReply floor (pass 1 1 .escort .noEscort)).length = 38 := by
  decide +kernel

end Sys2Proof.Tests
end

section
/-! PROOF. The ROOM_MODE commands OPEN, CLOSE and CLEAR_DOOR_ALARM (R32 to R35, R37). A command's effect neither reads nor
changes the link, so the reply is set apart from it; CLOSE then rests on what the end of one pairing does (R34), carried over
the doors of the room. -/

namespace Sys2Proof.Machine

open Sys2Proof.Claims

/-! ### The link stands apart from a room's commands -/

/-- The state with another link. -/
def State.withLink (s : State) (l : Link) : State := { s with link := l }

section WithLink
variable (s : State) (l : Link)

@[simp] theorem State.withLink_room (r : RoomId) : (s.withLink l).room r = s.room r := rfl

@[simp] theorem State.withLink_door (d : DoorId) : (s.withLink l).door d = s.door d := rfl

@[simp] theorem State.withLink_pairing (d : DoorId) : (s.withLink l).pairing d = s.pairing d := rfl

end WithLink

theorem State.write_withLink (s : State) (l : Link) (e : JournalEntry) :
    (s.withLink l).write e = (s.write e).withLink l := by
  by_cases h : s.journal.length < Config.journalMax <;> simp [State.write, State.withLink, State.now, h]

theorem slotRefused_withLink (s : State) (l : Link) (d : DoorId) (q : Pairing) (w : Reason) (n : Option PermitNo) :
    slotRefused (s.withLink l) d q w n = (slotRefused s d q w n).withLink l := by
  unfold slotRefused
  rw [← State.write_withLink, State.withLink_door]
  cases s.door d <;> rfl

/-- The end of a door's pairing is what the statements call a refused slot (R81, R88). -/
theorem State.endPairing_eq_elim (s : State) (w : Reason) (n : Option PermitNo) (d : DoorId) :
    s.endPairing w n d = (s.pairing d).elim s fun q => slotRefused s d q w n := by
  unfold State.endPairing
  cases s.pairing d <;> rfl

theorem State.endPairing_of_none {s : State} {d : DoorId} (h : s.pairing d = none) (w : Reason) (n : Option PermitNo) :
    s.endPairing w n d = s := by
  rw [State.endPairing_eq_elim, h, Option.elim_none]

theorem State.endPairing_of_some {s : State} {d : DoorId} {q : Pairing} (h : s.pairing d = some q) (w : Reason)
    (n : Option PermitNo) : s.endPairing w n d = slotRefused s d q w n := by
  rw [State.endPairing_eq_elim, h, Option.elim_some]

theorem State.endPairing_withLink (s : State) (l : Link) (w : Reason) (n : Option PermitNo) (d : DoorId) :
    (s.withLink l).endPairing w n d = (s.endPairing w n d).withLink l := by
  cases h : s.pairing d with
  | none => rw [State.endPairing_of_none h, State.endPairing_of_none (by simpa using h)]
  | some q =>
    rw [State.endPairing_of_some h, State.endPairing_of_some (q := q) (by simpa using h), slotRefused_withLink]

theorem State.endRoomPairings_withLink (s : State) (l : Link) (r : RoomId) (w : Reason) :
    (s.withLink l).endRoomPairings r w = (s.endRoomPairings r w).withLink l :=
  List.foldl_hom (State.withLink · l) fun t d => t.endPairing_withLink l w none d

/-- A mode command up to its record, in the words of the statements (R32, R33, R35). -/
theorem State.takeMode_eq (s : State) (r : RoomId) (v : ModeDetail) (m : Mode) :
    s.takeMode r v m = (s.setRoom r (modeTaken (s.room r) m)).write (roomModeEntry r v (s.room r) m) := by
  unfold State.takeMode modeTaken roomModeEntry
  dsimp only
  split <;> rfl

theorem State.takeMode_withLink (s : State) (l : Link) (r : RoomId) (v : ModeDetail) (m : Mode) :
    (s.withLink l).takeMode r v m = (s.takeMode r v m).withLink l := by
  rw [State.takeMode_eq, State.takeMode_eq, ← State.write_withLink]
  rfl

theorem State.closeRoom_withLink (s : State) (l : Link) (r : RoomId) (v : ModeDetail) :
    (s.withLink l).closeRoom r v = (s.closeRoom r v).withLink l := by
  unfold State.closeRoom
  dsimp only
  rw [State.withLink_room]
  split
  · rw [State.takeMode_withLink, State.endRoomPairings_withLink]
  · exact s.takeMode_withLink l r v .closed

theorem State.clearAlarm_withLink (s : State) (l : Link) (r : RoomId) :
    (s.withLink l).clearAlarm r = (s.clearAlarm r).withLink l := by
  unfold State.clearAlarm
  rw [State.withLink_room]
  split
  · rw [← State.write_withLink]
    rfl
  · rfl

/-! ### Taking a ROOM_MODE command (R32, R172, R173) -/

theorem roomOfNat_eq_some_iff {n : Nat} {r : RoomId} : roomOfNat n = some r ↔ r.val = n := by
  unfold roomOfNat
  split
  · simp [Fin.ext_iff, eq_comm]
  · simp only [reduceCtorEq, false_iff]
    omega

theorem State.onRoomInUse_used {s : State} {room : Byte} {r : RoomId} (hr : r.val = room.toNat)
    (used : (s.room r).settings.inUse = true) (act : RoomId → State) : s.onRoomInUse room act = (act r).okay := by
  unfold State.onRoomInUse
  rw [roomOfNat_eq_some_iff.mpr hr]
  exact if_pos used

theorem State.onRoomInUse_unused {s : State} {room : Byte}
    (unused : ∀ r : RoomId, r.val = room.toNat → (s.room r).settings.inUse = false) (act : RoomId → State) :
    s.onRoomInUse room act = s.refuse .unknownRoom := by
  unfold State.onRoomInUse
  cases h : roomOfNat room.toNat with
  | none => rfl
  | some r => exact if_neg (Bool.eq_false_iff.mp (unused r (roomOfNat_eq_some_iff.mp h)))

theorem State.freePlace_eq_withLink (s : State) : s.freePlace false = s.withLink (takenOnly s false) := rfl

/-- A command taken leaves its place and is answered once (R172, R173). -/
theorem State.takeCommand_of_taken {s : State} {tag : Byte} {c : LinkCommand} (taken : CommandTaken s tag c)
    (act : State → Answer) {a : Answer} (answer : act (s.withLink (takenOnly s false)) = a) :
    s.takeCommand false tag c act = a.state.reply tag a.result a.fields := by
  unfold CommandTaken at taken
  unfold State.takeCommand State.takeFrame
  rw [if_pos taken, State.freePlace_eq_withLink, ← answer]

section OnRoomInUse
variable {s : State} {tag room : Byte} {c : LinkCommand} (taken : CommandTaken s tag c) (act : State → RoomId → State)
include taken

/-- A command for a room in use has its effect, and is answered OK. -/
theorem State.takeCommand_onRoomInUse {r : RoomId} (hr : r.val = room.toNat) (used : (s.room r).settings.inUse = true)
    (apart : ∀ l, act (s.withLink l) r = (act s r).withLink l) :
    s.takeCommand false tag c (fun t => t.onRoomInUse room (act t)) =
      (act s r).withLink (answered s false tag .ok []) := by
  rw [State.takeCommand_of_taken taken _ (State.onRoomInUse_used hr (by exact used) _), apart]
  rfl

/-- A command that names no room in use is refused, and nothing else changes. -/
theorem State.takeCommand_unknownRoom
    (unused : ∀ r : RoomId, r.val = room.toNat → (s.room r).settings.inUse = false) :
    s.takeCommand false tag c (fun t => t.onRoomInUse room (act t)) =
      { s with link := answered s false tag .unknownRoom [] } := by
  rw [State.takeCommand_of_taken taken _ (State.onRoomInUse_unused (by exact unused) _)]
  rfl

end OnRoomInUse

/-! ### The state a mode command leaves before any pairing ends -/

/-- The mode taken, the command answered OK and its ROOM_MODE record written (R32, R33, R35). -/
def State.modeAnswered (s : State) (tag : Byte) (r : RoomId) (v : ModeDetail) (m : Mode) : State :=
  ({ s.setRoom r (modeTaken (s.room r) m) with link := answered s false tag .ok [] } : State).write
    (roomModeEntry r v (s.room r) m)

theorem State.takeMode_answered (s : State) (tag : Byte) (r : RoomId) (v : ModeDetail) (m : Mode) :
    (s.takeMode r v m).withLink (answered s false tag .ok []) = s.modeAnswered tag r v m := by
  rw [State.takeMode_eq, ← State.write_withLink]
  rfl

theorem State.closeRoom_answered (s : State) (tag : Byte) (r : RoomId) (v : ModeDetail) :
    (s.closeRoom r v).withLink (answered s false tag .ok []) =
      if (s.room r).mode = .inService then (s.modeAnswered tag r v .closed).endRoomPairings r .closed
      else s.modeAnswered tag r v .closed := by
  rw [← State.takeMode_answered]
  unfold State.closeRoom
  dsimp only
  split
  · rw [State.endRoomPairings_withLink]
  · rfl

section ModeAnswered
variable (s : State) (tag : Byte) (r : RoomId) (v : ModeDetail) (m : Mode)

@[simp] theorem State.modeAnswered_rooms :
    (s.modeAnswered tag r v m).rooms = (s.setRoom r (modeTaken (s.room r) m)).rooms := State.write_rooms _ _

@[simp] theorem State.modeAnswered_link : (s.modeAnswered tag r v m).link = answered s false tag .ok [] :=
  State.write_link _ _

@[simp] theorem State.modeAnswered_doors : (s.modeAnswered tag r v m).doors = s.doors := State.write_doors _ _

@[simp] theorem State.modeAnswered_pairings : (s.modeAnswered tag r v m).pairings = s.pairings := State.write_pairings _ _

@[simp] theorem State.modeAnswered_deadlines : (s.modeAnswered tag r v m).deadlines = s.deadlines :=
  State.write_deadlines _ _

@[simp] theorem State.modeAnswered_ports : (s.modeAnswered tag r v m).ports = s.ports := State.write_ports _ _

/-- Its record is the only one written (R32). -/
theorem State.modeAnswered_journaled : Journaled s (s.modeAnswered tag r v m) (roomModeEntry r v (s.room r) m) := by
  unfold Journaled State.modeAnswered
  rw [State.write_journal, State.write_journal, State.write_gapPending, State.write_gapPending]
  exact ⟨rfl, rfl⟩

theorem State.modeAnswered_frame :
    s.modeAnswered tag r v m =
      { s with rooms := (s.modeAnswered tag r v m).rooms, link := (s.modeAnswered tag r v m).link
               journal := (s.modeAnswered tag r v m).journal
               gapPending := (s.modeAnswered tag r v m).gapPending } := by
  unfold State.modeAnswered State.write
  split <;> rfl

end ModeAnswered

/-! ### One pairing ended (R81, R88) -/

theorem State.journal_grew_write (s : State) (e : JournalEntry) : s.journal <+: (s.write e).journal := by
  rw [State.write_journal]
  split
  · exact List.prefix_append _ _
  · exact List.prefix_rfl

/-- What the end of pairings may change: slots are emptied, entries go, items and records are added at the tails, and the
rest of the part is as it was. -/
structure PairingsOnly (s t : State) : Prop where
  frame : ∃ deadlines pairings ports journal gap,
    t = { s with deadlines := deadlines, pairings := pairings, ports := ports, journal := journal, gapPending := gap }
  queues : QueuesGrew s t
  journal : s.journal <+: t.journal
  deadlines : t.deadlines ⊆ s.deadlines

theorem PairingsOnly.refl (s : State) : PairingsOnly s s :=
  ⟨⟨_, _, _, _, _, rfl⟩, fun _ => List.prefix_rfl, List.prefix_rfl, List.Subset.refl _⟩

theorem PairingsOnly.trans {s t u : State} (h : PairingsOnly s t) (k : PairingsOnly t u) : PairingsOnly s u := by
  refine ⟨?_, fun p => (h.queues p).trans (k.queues p), h.journal.trans k.journal,
    List.Subset.trans k.deadlines h.deadlines⟩
  obtain ⟨_, _, _, _, _, rfl⟩ := h.frame
  obtain ⟨d, q, p, j, g, rfl⟩ := k.frame
  exact ⟨d, q, p, j, g, rfl⟩

theorem PairingsOnly.doors {s t : State} (h : PairingsOnly s t) : t.doors = s.doors := by
  obtain ⟨_, _, _, _, _, rfl⟩ := h.frame
  rfl

theorem State.write_pairingsOnly (s : State) (e : JournalEntry) : PairingsOnly s (s.write e) := by
  obtain ⟨p, j, g, eq⟩ := (s.write_told e).frame
  refine ⟨⟨s.deadlines, s.pairings, p, j, g, eq⟩, fun k => ?_, s.journal_grew_write e, ?_⟩
  · simp [State.port]
  · simp

theorem State.place_pairingsOnly (s : State) (p : PortId) (i : Item) : PairingsOnly s (s.place p i) := by
  refine ⟨⟨_, _, _, _, _, rfl⟩, fun k => ?_, List.prefix_rfl, List.Subset.refl _⟩
  unfold State.place
  rw [State.port_setPort]
  split
  · next h => exact h ▸ List.prefix_append _ _
  · exact List.prefix_rfl

theorem slotEmptied_pairingsOnly (s : State) (d : DoorId) : PairingsOnly s (slotEmptied s d) :=
  ⟨⟨_, _, _, _, _, rfl⟩, fun _ => List.prefix_rfl, List.prefix_rfl, List.filter_subset_self _⟩

section SlotRefused
variable (s : State) (d : DoorId) (q : Pairing) (w : Reason) (n : Option PermitNo)

theorem slotRefused_pairingsOnly : PairingsOnly s (slotRefused s d q w n) := by
  refine (slotEmptied_pairingsOnly s d).trans (.trans ?_ (State.write_pairingsOnly _ _))
  split
  · exact .refl _
  · exact State.place_pairingsOnly _ _ _

theorem slotRefused_pairing (b : DoorId) :
    (slotRefused s d q w n).pairing b = if d = b then none else s.pairing b := by
  unfold slotRefused
  rw [← State.pairing_setPairing]
  cases s.door d <;> exact congrArg (·.get b) (State.write_pairings _ _)

theorem slotRefused_deadlines : (slotRefused s d q w n).deadlines = s.deadlines.filter fun e => e.owner != .pair d := by
  unfold slotRefused
  cases s.door d <;> exact State.write_deadlines _ _

variable {s d}

/-- The first presenter's refusal stands in its door's port. -/
theorem slotRefused_decision {m : DoorMapping} (h : s.door d = some m) :
    .decision (doorByte d) q.cred (.refuse w) ∈ ((slotRefused s d q w n).port m.port).queue := by
  unfold slotRefused
  rw [h]
  simp [State.port, State.place, get_set, State.setPort]

end SlotRefused

theorem State.endPairing_pairingsOnly (s : State) (w : Reason) (n : Option PermitNo) (d : DoorId) :
    PairingsOnly s (s.endPairing w n d) := by
  cases h : s.pairing d with
  | none =>
    rw [State.endPairing_of_none h]
    exact .refl s
  | some q =>
    rw [State.endPairing_of_some h]
    exact slotRefused_pairingsOnly s d q w n

theorem State.pairing_endPairing (s : State) (w : Reason) (n : Option PermitNo) (d b : DoorId) :
    (s.endPairing w n d).pairing b = if d = b then none else s.pairing b := by
  cases h : s.pairing d with
  | none =>
    rw [State.endPairing_of_none h]
    split
    · next e => exact e ▸ h
    · rfl
  | some q => rw [State.endPairing_of_some h, slotRefused_pairing]

/-! ### The pairings at a list of doors ended in its order (R34) -/

theorem endPairings_pairingsOnly (w : Reason) (l : List DoorId) (s : State) :
    PairingsOnly s (l.foldl (fun t d => t.endPairing w none d) s) :=
  foldl_within PairingsOnly.refl PairingsOnly.trans (fun t d => t.endPairing_pairingsOnly w none d) l s

theorem pairing_endPairings (w : Reason) (b : DoorId) (l : List DoorId) (s : State) :
    (l.foldl (fun t d => t.endPairing w none d) s).pairing b = if b ∈ l then none else s.pairing b := by
  induction l generalizing s with
  | nil => rfl
  | cons d l ih =>
    rw [List.foldl_cons, ih, State.pairing_endPairing]
    by_cases hb : b ∈ l
    · simp [hb]
    · simp [hb, eq_comm]

/-- A pairing that stood at one of the doors has its refusal in the door's port, and its PAIR entry is gone. -/
theorem endPairings_ends (w : Reason) {b : DoorId} {m : DoorMapping} {q : Pairing} (l : List DoorId) (s : State)
    (hb : b ∈ l) (hm : s.door b = some m) (hq : s.pairing b = some q) :
    .decision (doorByte b) q.cred (.refuse w) ∈
        ((l.foldl (fun t d => t.endPairing w none d) s).port m.port).queue ∧
      ∀ e ∈ (l.foldl (fun t d => t.endPairing w none d) s).deadlines, e.owner ≠ .pair b := by
  induction l generalizing s with
  | nil => cases hb
  | cons d l ih =>
    rw [List.foldl_cons]
    by_cases hd : d = b
    · subst hd
      have rest := endPairings_pairingsOnly w l (s.endPairing w none d)
      rw [State.endPairing_of_some hq] at rest ⊢
      refine ⟨(rest.queues m.port).subset (slotRefused_decision q w none hm), fun e he => ?_⟩
      have kept := rest.deadlines he
      rw [slotRefused_deadlines, List.mem_filter] at kept
      exact bne_iff_ne.mp kept.2
    · have first := s.endPairing_pairingsOnly w none d
      have sameDoor : (s.endPairing w none d).door b = some m := by
        unfold State.door
        rw [first.doors]
        exact hm
      have samePairing : (s.endPairing w none d).pairing b = some q := by
        rw [State.pairing_endPairing, if_neg hd, hq]
      exact ih _ ((List.mem_cons.mp hb).resolve_left (Ne.symm hd)) sameDoor samePairing

/-- No door stands twice in the list, so the slots may be read before the first of them ends. -/
theorem endPairings_eq_slotRefused {s : State} (w : Reason) {l : List DoorId} (nodup : l.Nodup) (u : State)
    (same : ∀ d ∈ l, u.pairing d = s.pairing d) :
    l.foldl (fun t d => t.endPairing w none d) u =
      l.foldl (fun t d => (s.pairing d).elim t fun q => slotRefused t d q w none) u := by
  induction l generalizing u with
  | nil => rfl
  | cons d l ih =>
    obtain ⟨notIn, nodup⟩ := List.nodup_cons.mp nodup
    have head : u.endPairing w none d = (s.pairing d).elim u fun q => slotRefused u d q w none := by
      rw [State.endPairing_eq_elim, same d List.mem_cons_self]
    rw [List.foldl_cons, List.foldl_cons, ← head]
    refine ih nodup _ fun b hb => ?_
    rw [State.pairing_endPairing, if_neg (ne_of_mem_of_not_mem hb notIn).symm, same b (List.mem_cons_of_mem d hb)]

/-! ### The pairings of a room (R34) -/

theorem State.doorsOfRoom_nodup (s : State) (r : RoomId) : (s.doorsOfRoom r).Nodup := (List.nodup_finRange 32).filter _

theorem State.mem_doorsOfRoom (s : State) (r : RoomId) (d : DoorId) :
    d ∈ s.doorsOfRoom r ↔ (s.door d).any (fun m => m.room == r) = true := by
  simp [State.doorsOfRoom, allDoors]

theorem State.endRoomPairings_pairingsOnly (s : State) (r : RoomId) (w : Reason) :
    PairingsOnly s (s.endRoomPairings r w) := endPairings_pairingsOnly w _ s

/-- The pairings at the room's doors end, as seen from any state with the same doors and slots. -/
theorem State.endRoomPairings_ended {s u : State} (doors : u.doors = s.doors) (pairings : u.pairings = s.pairings)
    (r : RoomId) (w : Reason) : PairingsEnded s (u.endRoomPairings r w) r w := by
  have door (d : DoorId) : s.door d = u.door d := by
    unfold State.door
    rw [doors]
  have pairing (d : DoorId) : s.pairing d = u.pairing d := by
    unfold State.pairing
    rw [pairings]
  constructor
  · intro d
    unfold State.endRoomPairings
    rw [pairing_endPairings, door, pairing]
    simp only [State.mem_doorsOfRoom]
  · intro d m hm hr q hq
    rw [door] at hm
    rw [pairing] at hq
    refine endPairings_ends w _ u ?_ hm hq
    simp [State.mem_doorsOfRoom, Option.mem_def.mp hm, hr]

theorem State.endRoomPairings_eq_slotRefused {s u : State} (doors : u.doors = s.doors) (pairings : u.pairings = s.pairings)
    (r : RoomId) (w : Reason) :
    u.endRoomPairings r w =
      (s.doorsOfRoom r).foldl (fun x d => (s.pairing d).elim x fun q => slotRefused x d q w none) u := by
  have sameDoors : u.doorsOfRoom r = s.doorsOfRoom r := by
    unfold State.doorsOfRoom State.door
    rw [doors]
  unfold State.endRoomPairings
  rw [sameDoors]
  refine endPairings_eq_slotRefused w (s.doorsOfRoom_nodup r) u fun d _ => ?_
  unfold State.pairing
  rw [pairings]

/-! ### CLOSE (R33, R34, R35) -/

/-- Once the mode is answered, ending pairings or not, only these fields of the part differ, queues and journal have only
grown, and the room and the reply are as the mode left them. -/
theorem modeAnswered_then {s t : State} {tag : Byte} {r : RoomId} {v : ModeDetail} {m : Mode}
    (h : PairingsOnly (s.modeAnswered tag r v m) t) :
    t.rooms = (s.setRoom r (modeTaken (s.room r) m)).rooms ∧ t.link = answered s false tag .ok [] ∧
      (s.write (roomModeEntry r v (s.room r) m)).journal <+: t.journal ∧ QueuesGrew s t ∧
      t = { s with rooms := t.rooms, deadlines := t.deadlines, pairings := t.pairings, ports := t.ports, link := t.link,
                   journal := t.journal, gapPending := t.gapPending } := by
  obtain ⟨journal, -⟩ := s.modeAnswered_journaled tag r v m
  have queues : QueuesGrew s t := fun p => by
    have grown := h.queues p
    unfold State.port at grown ⊢
    rwa [State.modeAnswered_ports] at grown
  refine ⟨?_, ?_, journal ▸ h.journal, queues, ?_⟩
  all_goals obtain ⟨_, _, _, _, _, rfl⟩ := h.frame
  · exact s.modeAnswered_rooms tag r v m
  · exact s.modeAnswered_link tag r v m
  · conv_lhs => rw [State.modeAnswered_frame]

/-! ### The commands -/

section Commands
variable {s : State} {tag room : Byte} {r : RoomId} (hr : r.val = room.toNat)
  (used : (s.room r).settings.inUse = true)

include hr used

theorem exec_roomModeOpen (taken : CommandTaken s tag (.roomModeOpen room)) :
    exec (.roomModeOpen tag room) s = .next (s.modeAnswered tag r .opened .inService) :=
  congrArg Host.Outcome.next
    ((State.takeCommand_onRoomInUse taken (fun t r => t.takeMode r .opened .inService) hr used
      fun l => s.takeMode_withLink l r _ _).trans (s.takeMode_answered tag r _ _))

theorem exec_roomModeClose (taken : CommandTaken s tag (.roomModeClose room)) :
    exec (.roomModeClose tag room) s =
      .next (if (s.room r).mode = .inService then (s.modeAnswered tag r .closed .closed).endRoomPairings r .closed
        else s.modeAnswered tag r .closed .closed) :=
  congrArg Host.Outcome.next
    ((State.takeCommand_onRoomInUse taken (fun t r => t.closeRoom r .closed) hr used
      fun l => s.closeRoom_withLink l r _).trans (s.closeRoom_answered tag r _))

theorem exec_clearDoorAlarm (taken : CommandTaken s tag (.clearDoorAlarm room)) :
    exec (.clearDoorAlarm tag room) s = .next ((s.clearAlarm r).withLink (answered s false tag .ok [])) :=
  congrArg Host.Outcome.next
    (State.takeCommand_onRoomInUse taken State.clearAlarm hr used fun l => s.clearAlarm_withLink l r)

end Commands

/-- The alarm cleared and answered: a raised one with its record, a clear one with nothing written (R37). -/
theorem State.clearAlarm_answered (s : State) (tag : Byte) (r : RoomId) :
    (s.clearAlarm r).withLink (answered s false tag .ok []) =
      if (s.room r).doorAlarm then
        ({ s.setRoom r { s.room r with doorAlarm := false } with link := answered s false tag .ok [] } : State).write
          { kind := .doorRestored, room := some r, detail := .source .estate }
      else { s with link := answered s false tag .ok [] } := by
  unfold State.clearAlarm
  split
  · rw [← State.write_withLink]
    rfl
  · rfl

/-- Each ROOM_MODE command that names no room in use is refused UNKNOWN_ROOM (R32). -/
theorem exec_roomMode_unknownRoom {s : State} {tag room : Byte}
    (unused : ∀ r : RoomId, r.val = room.toNat → (s.room r).settings.inUse = false) :
    ∀ c ∈ [(LinkCommand.roomModeOpen room, Instr.roomModeOpen tag room), (.roomModeClose room, .roomModeClose tag room),
        (.roomModeCloseClear room, .roomModeCloseClear tag room), (.clearDoorAlarm room, .clearDoorAlarm tag room)],
      CommandTaken s tag c.1 → exec c.2 s = .next { s with link := answered s false tag .unknownRoom [] } := by
  simp only [List.forall_mem_cons, List.not_mem_nil, false_imp_iff, implies_true, and_true]
  refine ⟨fun taken => ?_, fun taken => ?_, fun taken => ?_, fun taken => ?_⟩
  all_goals exact congrArg Host.Outcome.next (State.takeCommand_unknownRoom taken _ unused)

/-- CLOSE of a room in use: what becomes of the pairings, in a room that was IN_SERVICE and in any other, and the rest of
the state. -/
theorem roomClosed_effects (s : State) (tag : Byte) (r : RoomId) {t : State}
    (ht : t = if (s.room r).mode = .inService then (s.modeAnswered tag r .closed .closed).endRoomPairings r .closed
      else s.modeAnswered tag r .closed .closed) :
    PairingsOnly (s.modeAnswered tag r .closed .closed) t ∧
      ((s.room r).mode = .inService → PairingsEnded s t r .closed) ∧
      ((s.room r).mode ≠ .inService →
        t.pairings = s.pairings ∧ t.deadlines = s.deadlines ∧ t.ports = s.ports ∧
          Journaled s t (roomModeEntry r .closed (s.room r) .closed)) ∧
      t = if (s.room r).mode = .inService then
          (s.doorsOfRoom r).foldl (fun x d => (s.pairing d).elim x fun q => slotRefused x d q .closed none)
            (s.modeAnswered tag r .closed .closed)
        else s.modeAnswered tag r .closed .closed := by
  have doors := s.modeAnswered_doors tag r .closed .closed
  have pairings := s.modeAnswered_pairings tag r .closed .closed
  by_cases hm : (s.room r).mode = .inService
  · rw [if_pos hm] at ht ⊢
    subst ht
    exact ⟨State.endRoomPairings_pairingsOnly _ r .closed, fun _ => State.endRoomPairings_ended doors pairings r .closed,
      fun h => absurd hm h, State.endRoomPairings_eq_slotRefused doors pairings r .closed⟩
  · rw [if_neg hm] at ht ⊢
    subst ht
    exact ⟨.refl _, fun h => absurd h hm,
      fun _ => ⟨pairings, State.modeAnswered_deadlines .., State.modeAnswered_ports .., State.modeAnswered_journaled ..⟩,
      rfl⟩

/-- Settles O38: each command is its effect on the room with the reply set apart, and CLOSE ends the pairings of the room's
doors one by one. -/
theorem roomModeCommands : Obligations.RoomModeCommands := by
  unfold Obligations.RoomModeCommands
  refine ⟨fun s tag room r hr used => ⟨exec_roomModeOpen hr used, fun taken => ?_⟩, fun s tag room =>
    ⟨fun r hr used taken => ?_, exec_roomMode_unknownRoom⟩⟩
  · obtain ⟨only, ended, kept, fold⟩ := roomClosed_effects s tag r rfl
    obtain ⟨rooms, link, journal, queues, frame⟩ := modeAnswered_then only
    refine ⟨_, exec_roomModeClose hr used taken, rooms, link, journal, queues, ended, kept, fun u hu => ?_, frame⟩
    rw [rooms, link] at hu
    subst hu
    exact fold
  · rw [exec_clearDoorAlarm hr used taken, State.clearAlarm_answered]

end Sys2Proof.Machine
end

section
/-! PROOF. The ARRIVE and PAIR entries (R81, R87, R94, R95). Taking a due entry hands it to its owner over the rest of the
queue; for ARRIVE that is a record becoming INSIDE, for PAIR the refusal of the door's first presenter. -/

namespace Sys2Proof.Machine

open Sys2Proof.Claims

/-! ### Taking the head of the queue (R115) -/

/-- Where no change to LOST is owed, in the words of the statements (R45). -/
theorem Clock.lostOwed_eq_false {c : Clock} : c.lostOwed = false ↔ c.status ≠ .set ∨ c.elapsed < 3686400 := by
  rw [Clock.lostOwed, Bool.and_eq_false_iff, beq_eq_false_iff_ne, decide_eq_false_iff_not, Nat.not_le]
  rfl

/-- An owner's due entry at the head is taken: the owner acts on the rest of the queue. -/
theorem State.takeOwned_of_headDue {s : State} {o : Owner} {due : EstateTime} {rest : List Deadline}
    (h : HeadDue s o due rest) :
    s.takeOwned o = ({ s with deadlines := rest } : State).ownerActs { due := due, owner := o } := by
  obtain ⟨running, lost, queue, isDue⟩ := h
  have head : s.dueEntry = some { due := due, owner := o } := by simp [State.dueEntry, queue, isDue]
  simp [State.takeOwned, running, Clock.lostOwed_eq_false.mpr lost, head, State.takeHead, queue]

/-! ### A record becomes INSIDE (R92, R94, R95) -/

/-- The record found for a credential carries it (R90). -/
theorem State.cred_of_record? {s : State} {c : Credential} {o : Occupant} (h : s.record? c = some o) : o.cred = c := by
  simpa using List.find?_some h

/-- A change to a record that leaves its room alone keeps every present count (R90). -/
theorem State.presentCount_updateRecord (s : State) (c : Credential) {f : Occupant → Occupant}
    (hf : ∀ o, (f o).room = o.room) (r : RoomId) : (s.updateRecord c f).presentCount r = s.presentCount r := by
  have room (o : Occupant) : (if o.cred == c then f o else o).room = o.room := by split <;> simp only [hf]
  simp only [State.presentCount, State.inRoom, State.updateRecord_roster, List.filter_map, List.length_map,
    Function.comp_def, room]

/-- The record stands INSIDE and its ARRIVE entry is gone; its WATCH slot is not yet set. -/
def State.insideUnwatched (s : State) (o : Occupant) : State :=
  (s.updateRecord o.cred fun x => { x with state := .inside }).cancel (.arrive o.cred)

theorem State.insideUnwatched_eq (s : State) (o : Occupant) :
    s.insideUnwatched o =
      { s with
        roster := s.roster.map fun x => if x.cred = o.cred then { x with state := .inside } else x
        deadlines := s.deadlines.filter fun e => e.owner != .arrive o.cred } := by
  have roster : (s.insideUnwatched o).roster =
      s.roster.map fun x => if x.cred = o.cred then { x with state := .inside } else x := by
    simp [State.insideUnwatched]
  rw [← roster]
  rfl

/-- The presumed or reported passage leaves the present count as it was, so that count decides the WATCH slot (R90, R95). -/
theorem State.becomeInside_eq (s : State) (o : Occupant) :
    s.becomeInside o =
      if s.presentCount o.room = 1 ∧ 0 < (s.room o.room).settings.checkInterval then (s.insideUnwatched o).armCheck o
      else s.insideUnwatched o := by
  have count : (s.insideUnwatched o).presentCount o.room = s.presentCount o.room :=
    s.presentCount_updateRecord o.cred (f := fun x => { x with state := .inside }) (fun _ => rfl) o.room
  rw [← count]
  rfl

/-! ### The two entries -/

/-- ARRIVE_ENTRY of a record whose entry is due: it becomes INSIDE (R94). -/
theorem exec_arriveEntry {s : State} {c : Credential} {due : EstateTime} {rest : List Deadline} {o : Occupant}
    (head : HeadDue s (.arrive c) due rest) (record : s.record? c = some o) :
    exec (.arriveEntry c) s = .next (({ s with deadlines := rest } : State).becomeInside o) := by
  have found : ({ s with deadlines := rest } : State).record? c = some o := record
  show Host.Outcome.next (s.takeOwned (.arrive c)) = _
  rw [State.takeOwned_of_headDue head]
  simp only [State.ownerActs, State.arrivePresumed, found]

/-- PAIR_ENTRY of a door whose entry is due: its first presenter is refused PAIR_TIMEOUT (R87). -/
theorem exec_pairEntry {s : State} {d : DoorId} {due : EstateTime} {rest : List Deadline} {q : Pairing}
    (head : HeadDue s (.pair d) due rest) (waiting : s.pairing d = some q) :
    exec (.pairEntry d) s = .next (slotRefused { s with deadlines := rest } d q .pairTimeout none) := by
  have slot : ({ s with deadlines := rest } : State).pairing d = some q := waiting
  show Host.Outcome.next (s.takeOwned (.pair d)) = _
  rw [State.takeOwned_of_headDue head]
  exact congrArg Host.Outcome.next (State.endPairing_of_some slot .pairTimeout none)

/-- Settles O51: an ARRIVE entry hands its record to `becomeInside`, and a PAIR entry ends its door's pairing as a refused
slot, whose mapped door gives the port and the room of the record. -/
theorem arriveAndPairEntriesTaken : Obligations.ArriveAndPairEntriesTaken := by
  unfold Obligations.ArriveAndPairEntriesTaken
  refine ⟨fun s c due rest o head record => ?_, fun s d due rest q m head waiting mapped => ?_⟩
  · obtain rfl := State.cred_of_record? record
    rw [exec_arriveEntry head record, State.becomeInside_eq, State.insideUnwatched_eq]
    -- Present counts and settings do not read the deadline queue, so the test is the same over the rest of it.
    by_cases alone : s.presentCount o.room = 1 ∧ 0 < (s.room o.room).settings.checkInterval
    · rw [if_pos alone]
      exact congrArg Host.Outcome.next (if_pos alone)
    · rw [if_neg alone]
      exact congrArg Host.Outcome.next (if_neg alone)
  · have door : ({ s with deadlines := rest } : State).door d = some m := mapped
    rw [exec_pairEntry head waiting, slotRefused, door, pairRefusal, door]
    rfl

end Sys2Proof.Machine
end

section
/-! PROOF. The CHECK entry (R131). Its owner's turn over the rest of the queue re-arms CHECK, sets the lone alarm where it
was clear, and sends a notice to every door of the room. A notice reads and changes the ports alone, so it is settled apart
from the other two: what it places does not depend on them (R41, R165). -/

namespace Sys2Proof.Machine

open Sys2Proof.Claims

/-! ### A notice changes the ports alone (R41, R165) -/

section SameQueues
variable {s u : State} (ports : u.ports = s.ports) (doors : u.doors = s.doors) (pairings : u.pairings = s.pairings)
include ports doors pairings

/-- The free places and the decisions owed are read from the ports, the doors and the slots. -/
theorem State.uncommitted_congr (p : PortId) : u.uncommitted p = s.uncommitted p := by
  unfold State.uncommitted State.owedDecisions State.doorsOfPort State.port State.door State.pairing
  rw [ports, doors, pairings]

/-- What a notice does to the ports is the same in any two states with the same ports, doors and slots, and it does nothing
else. -/
theorem State.noticeAt_eq_ports (r : RoomId) (n : Notice) (d : DoorId) :
    u.noticeAt r n d = { u with ports := (s.noticeAt r n d).ports } := by
  have door : u.door d = s.door d := congrArg (·.get d) doors
  have same : u = { u with ports := s.ports } := by rw [← ports]
  unfold State.noticeAt
  rw [door]
  split
  · exact same
  · next m _ =>
    rw [State.uncommitted_congr ports doors pairings]
    split
    · unfold State.place State.setPort State.port
      rw [ports]
    · exact same

theorem State.notices_eq_ports (r : RoomId) (n : Notice) (l : List DoorId) :
    l.foldl (fun t d => t.noticeAt r n d) u = { u with ports := (l.foldl (fun t d => t.noticeAt r n d) s).ports } := by
  induction l generalizing s u with
  | nil =>
    rw [List.foldl_nil, List.foldl_nil, ← ports]
  | cons d l ih =>
    have atU := State.noticeAt_eq_ports ports doors pairings r n d
    have atS := State.noticeAt_eq_ports (s := s) rfl rfl rfl r n d
    rw [List.foldl_cons, List.foldl_cons, ih (s := s.noticeAt r n d), atU]
    · rw [atU]
    · rw [atU, atS]
      exact doors
    · rw [atU, atS]
      exact pairings

theorem State.notify_eq_ports (r : RoomId) (n : Notice) :
    u.notify r n = { u with ports := (s.notify r n).ports } := by
  have sameDoors : u.doorsOfRoom r = s.doorsOfRoom r := by
    unfold State.doorsOfRoom State.door
    rw [doors]
  unfold State.notify
  rw [sameDoors]
  exact State.notices_eq_ports ports doors pairings r n _

end SameQueues

theorem State.door_noticeAt (s : State) (r : RoomId) (n : Notice) (d b : DoorId) :
    (s.noticeAt r n d).door b = s.door b := by
  rw [State.noticeAt_eq_ports (s := s) rfl rfl rfl]
  rfl

/-! ### A notice is added at the tail (R165) -/

theorem queuesGrew_refl (s : State) : QueuesGrew s s := fun _ => List.prefix_rfl

theorem queuesGrew_trans {s t u : State} (h : QueuesGrew s t) (k : QueuesGrew t u) : QueuesGrew s u :=
  fun p => (h p).trans (k p)

/-- A notice for one door is dropped, or placed in the port of its door, which had 5 places free of decisions owed. -/
theorem State.noticeAt_cases (s : State) (r : RoomId) (n : Notice) (d : DoorId) :
    s.noticeAt r n d = s ∨
      ∃ m, s.door d = some m ∧ 5 ≤ s.uncommitted m.port ∧ s.noticeAt r n d = s.place m.port (.notice d r n) := by
  unfold State.noticeAt
  split
  · exact .inl rfl
  · next m door =>
    split
    · next free => exact .inr ⟨m, door, free, rfl⟩
    · exact .inl rfl

theorem State.noticeAt_queuesGrew (s : State) (r : RoomId) (n : Notice) (d : DoorId) :
    QueuesGrew s (s.noticeAt r n d) := by
  obtain dropped | ⟨m, -, -, placed⟩ := s.noticeAt_cases r n d
  · rw [dropped]
    exact queuesGrew_refl s
  · rw [placed]
    exact (s.place_pairingsOnly _ _).queues

theorem notices_queuesGrew (r : RoomId) (n : Notice) (l : List DoorId) (s : State) :
    QueuesGrew s (l.foldl (fun t d => t.noticeAt r n d) s) :=
  foldl_within queuesGrew_refl queuesGrew_trans (fun t d => t.noticeAt_queuesGrew r n d) l s

theorem State.notify_queuesGrew (s : State) (r : RoomId) (n : Notice) : QueuesGrew s (s.notify r n) :=
  notices_queuesGrew r n _ s

/-! ### A notice reaches its doors where there is room for all of them (R165) -/

/-- An item placed takes one place of its own port. -/
theorem State.uncommitted_place (s : State) (k p : PortId) (i : Item) :
    (s.place k i).uncommitted p = if k = p then s.uncommitted p - 1 else s.uncommitted p := by
  have owed : (s.place k i).owedDecisions p = s.owedDecisions p := rfl
  unfold State.uncommitted
  rw [owed, State.place, State.port_setPort]
  split
  · next same =>
    rw [same, List.length_append, List.length_singleton]
    omega
  · rfl

theorem State.uncommitted_noticeAt (s : State) (r : RoomId) (n : Notice) (d : DoorId) (p : PortId) :
    s.uncommitted p ≤ (s.noticeAt r n d).uncommitted p + 1 := by
  obtain dropped | ⟨m, -, -, placed⟩ := s.noticeAt_cases r n d
  · rw [dropped]
    omega
  · rw [placed, State.uncommitted_place]
    split <;> omega

theorem State.mem_noticeAt {s : State} {d : DoorId} {m : DoorMapping} (door : s.door d = some m)
    (free : 5 ≤ s.uncommitted m.port) (r : RoomId) (n : Notice) :
    .notice d r n ∈ ((s.noticeAt r n d).port m.port).queue := by
  unfold State.noticeAt
  rw [door]
  dsimp only
  rw [if_pos free, State.place, State.port_setPort_self]
  exact List.mem_append_right _ (List.mem_singleton_self _)

/-- Every notice sent before takes at most one place of a door's port, so 5 are left when that door's turn comes. -/
theorem mem_notices (r : RoomId) (n : Notice) {d : DoorId} {m : DoorMapping} (l : List DoorId) (s : State) (hd : d ∈ l)
    (door : s.door d = some m) (free : l.length + 4 ≤ s.uncommitted m.port) :
    .notice d r n ∈ ((l.foldl (fun t d => t.noticeAt r n d) s).port m.port).queue := by
  induction l generalizing s with
  | nil => cases hd
  | cons b l ih =>
    rw [List.length_cons] at free
    rw [List.foldl_cons]
    obtain rfl | later := List.mem_cons.mp hd
    · exact (notices_queuesGrew r n l _ m.port).subset (State.mem_noticeAt door (by omega) r n)
    · have taken := s.uncommitted_noticeAt r n b m.port
      exact ih _ later (by rw [State.door_noticeAt, door]) (by omega)

theorem State.mem_notify (s : State) (r : RoomId) (n : Notice) {d : DoorId} {m : DoorMapping} (hd : d ∈ s.doorsOfRoom r)
    (door : s.door d = some m) (free : (s.doorsOfRoom r).length + 4 ≤ s.uncommitted m.port) :
    .notice d r n ∈ ((s.notify r n).port m.port).queue :=
  mem_notices r n _ s hd door free

/-! ### The lone alarm set (R131) -/

/-- The LONE_ALARM record of a missed check: it carries the missed due time. -/
def loneAlarmEntry (o : Occupant) (due : EstateTime) : JournalEntry :=
  { kind := .loneAlarm, room := some o.room, cred := some o.cred, permit := some o.permit, detail := .instant due }

/-- A clear lone alarm is set with its record; a set one stays as it is. -/
def State.raiseLoneAlarm (s : State) (o : Occupant) (due : EstateTime) : State :=
  if o.loneAlarm then s
  else (s.updateRecord o.cred fun x => { x with loneAlarm := true }).write (loneAlarmEntry o due)

section RaiseLoneAlarm
variable (s : State) (o : Occupant) (due : EstateTime)

theorem State.raiseLoneAlarm_frame :
    s.raiseLoneAlarm o due =
      { s with roster := (s.raiseLoneAlarm o due).roster, journal := (s.raiseLoneAlarm o due).journal,
               gapPending := (s.raiseLoneAlarm o due).gapPending } := by
  unfold State.raiseLoneAlarm
  split
  · rfl
  · unfold State.write
    split <;> rfl

theorem State.raiseLoneAlarm_roster :
    (s.raiseLoneAlarm o due).roster =
      if o.loneAlarm then s.roster
      else s.roster.map fun x => if x.cred = o.cred then { x with loneAlarm := true } else x := by
  unfold State.raiseLoneAlarm
  split
  · rfl
  · simp

end RaiseLoneAlarm

/-- A record is written alike in any state with the same clock, journal and pending gap (R180). -/
theorem journaled_write {s u : State} (clock : u.clock = s.clock) (journal : u.journal = s.journal)
    (gap : u.gapPending = s.gapPending) (e : JournalEntry) : Journaled s (u.write e) e := by
  unfold Journaled
  rw [State.write_journal, State.write_journal, State.write_gapPending, State.write_gapPending, State.now, State.now, clock,
    journal, gap]
  exact ⟨rfl, rfl⟩

theorem State.raiseLoneAlarm_journaled {s u : State} (clock : u.clock = s.clock) (journal : u.journal = s.journal)
    (gap : u.gapPending = s.gapPending) (o : Occupant) (due : EstateTime) :
    if o.loneAlarm then
      (u.raiseLoneAlarm o due).journal = s.journal ∧ (u.raiseLoneAlarm o due).gapPending = s.gapPending
    else Journaled s (u.raiseLoneAlarm o due) (loneAlarmEntry o due) := by
  unfold State.raiseLoneAlarm
  split
  · exact ⟨journal, gap⟩
  · exact journaled_write (u := u.updateRecord _ _) clock journal gap _

/-! ### The entry -/

/-- A missed check re-arms CHECK, raises the lone alarm and sends the notice (R131). -/
theorem State.checkMissed_of_record {s : State} {c : Credential} {o : Occupant} (record : s.record? c = some o)
    (due : EstateTime) :
    s.checkMissed c due =
      ((s.armCheck o).raiseLoneAlarm o due).notify o.room { kind := .loneAlarm, cred := some c, time := due } := by
  obtain rfl := State.cred_of_record? record
  unfold State.checkMissed
  rw [record]
  rfl

/-- A missed check but for its notice: CHECK armed over the rest of the queue and the lone alarm raised. -/
def State.checkRearmed (s : State) (rest : List Deadline) (o : Occupant) (due : EstateTime) : State :=
  (({ s with deadlines := rest } : State).armCheck o).raiseLoneAlarm o due

section CheckRearmed
variable (s : State) (rest : List Deadline) (o : Occupant) (due : EstateTime)

theorem State.checkRearmed_deadlines :
    (s.checkRearmed rest o due).deadlines = insertDeadline
      { due := min (s.now + 60 * (s.room o.room).settings.checkInterval) 4294967295, owner := .check o.cred }
      (rest.filter fun e => !e.owner.sameSlot (.check o.cred)) :=
  congrArg State.deadlines (State.raiseLoneAlarm_frame _ o due)

theorem State.checkRearmed_frame :
    s.checkRearmed rest o due =
      { s with
        roster := (s.checkRearmed rest o due).roster, deadlines := (s.checkRearmed rest o due).deadlines
        journal := (s.checkRearmed rest o due).journal, gapPending := (s.checkRearmed rest o due).gapPending } := by
  rw [State.checkRearmed_deadlines]
  exact State.raiseLoneAlarm_frame _ o due

theorem State.checkRearmed_journaled :
    if o.loneAlarm then
      (s.checkRearmed rest o due).journal = s.journal ∧ (s.checkRearmed rest o due).gapPending = s.gapPending
    else Journaled s (s.checkRearmed rest o due) (loneAlarmEntry o due) :=
  State.raiseLoneAlarm_journaled (s := s) (u := ({ s with deadlines := rest } : State).armCheck o) rfl rfl rfl o due

end CheckRearmed

/-- CHECK_ENTRY of a record whose entry is due: its check is missed, and the notice finds the ports as they were before
(R131). -/
theorem exec_checkEntry {s : State} {c : Credential} {due : EstateTime} {rest : List Deadline} {o : Occupant}
    (head : HeadDue s (.check c) due rest) (record : s.record? c = some o) :
    exec (.checkEntry c) s =
      .next { s.checkRearmed rest o due with
        ports := (s.notify o.room { kind := .loneAlarm, cred := some c, time := due }).ports } := by
  have found : ({ s with deadlines := rest } : State).record? c = some o := record
  have frame := s.checkRearmed_frame rest o due
  have told := State.notify_eq_ports (s := s) (u := s.checkRearmed rest o due) (by rw [frame]) (by rw [frame])
    (by rw [frame])
  show Host.Outcome.next (s.takeOwned (.check c)) = _
  rw [State.takeOwned_of_headDue head]
  exact congrArg Host.Outcome.next ((State.checkMissed_of_record found due).trans (told _ _))

/-- Settles O52: the entry's three parts are CHECK armed over the rest of the queue, the lone alarm raised, and the notice,
which finds its places as it would have in the state before. -/
theorem checkEntryTaken : Obligations.CheckEntryTaken := by
  unfold Obligations.CheckEntryTaken
  intro s c due rest o head record
  refine ⟨_, exec_checkEntry head record, ?_⟩
  obtain rfl := State.cred_of_record? record
  refine ⟨s.checkRearmed_deadlines rest o due, State.raiseLoneAlarm_roster _ o due, s.checkRearmed_journaled rest o due,
    fun d hd m hm free => ?_, rfl, s.notify_queuesGrew _ _, ?_⟩
  · exact s.mem_notify _ _ hd hm (by omega)
  · conv_lhs => rw [s.checkRearmed_frame rest o due]

end Sys2Proof.Machine
end

section
/-! PROOF. The isolation scan (R136 to R145). A conversion does two things that do not meet: it replaces its own channel,
and it makes the outputs of a change of the held class, which read no channel but its own new class. So a scan is the outputs
of its conversions, in the order of the rooms, over the state as it was, with the converted channels put in their places. -/

namespace Sys2Proof.Machine

open Sys2Proof.Claims

/-! ### The class of a conversion (R138) -/

/-- The boundaries as whole values. -/
theorem classOf_eq (v : BitVec 10) :
    classOf v =
      if v.toNat ≤ 99 then .short else if v.toNat ≤ 399 then .active else if v.toNat ≤ 799 then .inactive
      else .openLoop := by
  simp only [classOf, Nat.lt_succ_iff]

/-- UNKNOWN is never the class of a conversion (R139). -/
theorem classOf_ne_unknown (v : BitVec 10) : classOf v ≠ .unknown := by
  unfold classOf
  split_ifs <;> decide

/-! ### The debounce (R139) -/

theorem converted_of_disabled {k : Channel} (disabled : k.held = none) (v : BitVec 10) : converted k v = k := by
  simp only [converted, disabled]

theorem converted_of_held {k : Channel} {held : HeldClass} (enabled : k.held = some held) (v : BitVec 10) :
    converted k v =
      if classOf v = held then { k with candidate := none, lastValue := some v }
      else if k.candidate = some (classOf v, 1) then { k with candidate := some (classOf v, 2), lastValue := some v }
      else if k.candidate.any (fun y => y.1 == classOf v) then
        { held := some (classOf v), candidate := none, lastValue := some v, fromStart := false }
      else { k with candidate := some (classOf v, 1), lastValue := some v } := by
  simp only [converted, enabled, classOf_eq]

/-- The debounce leaves the channel as converted, and tells a change exactly where the held class has become the class of
the conversion, which differs from the one before. -/
theorem Channel.debounce_cases {k : Channel} {held : HeldClass} (enabled : k.held = some held) (v : BitVec 10) :
    { (k.debounce held (classOf v)).1 with lastValue := some v } = converted k v ∧
      ((k.debounce held (classOf v)).2 = false ∧ (converted k v).held = some held ∨
        (k.debounce held (classOf v)).2 = true ∧ (converted k v).held = some (classOf v) ∧ held ≠ classOf v) := by
  rw [converted_of_held enabled]
  unfold Channel.debounce
  by_cases same : classOf v = held
  · simp [same, enabled]
  · rw [if_neg same, if_neg same]
    rcases candidate : k.candidate with _ | ⟨y, n⟩
    · simp [enabled]
    · by_cases agrees : y = classOf v
      · by_cases first : n = 1
        · simp [agrees, first, enabled]
        · simp [agrees, first, Ne.symm same]
      · simp [agrees, enabled]

/-! ### The outputs of a held-class change (R141 to R145) -/

theorem selectsChange_iff (ev : IsolationEvents) (before after : HeldClass) :
    selectsChange ev before after = true ↔ ev = .all ∨ ∃ x ∈ [before, after], x = .short ∨ x = .openLoop := by
  have fault (x : HeldClass) : x.isFault = true ↔ x = .short ∨ x = .openLoop := by cases x <;> decide
  cases ev <;> simp [selectsChange, fault]

theorem isolationOf_eq_confirmed (x : HeldClass) : isolationOf (some x) = .confirmed ↔ x = .active := by
  cases x <;> decide

/-- Known and not ACTIVE: NOT_CONFIRMED or FAULT (R141). -/
theorem isolationOf_lost_iff (x : HeldClass) :
    isolationOf (some x) = .notConfirmed ∨ isolationOf (some x) = .fault ↔ x ≠ .unknown ∧ x ≠ .active := by
  cases x <;> decide

/-- The isolation state in which a known class other than ACTIVE leaves a room in. -/
def lostState (x : HeldClass) : IsolationState := if x = .inactive then .notConfirmed else .fault

theorem isolationOf_eq_lostState {x : HeldClass} (known : x ≠ .unknown) (lost : x ≠ .active) :
    isolationOf (some x) = lostState x := by
  cases x with
  | unknown => exact absurd rfl known
  | active => exact absurd rfl lost
  | short | inactive | openLoop => rfl

/-- The ISOLATION_CHANGE record of a held-class change, where the room's setting selects it (R142). -/
def classRecorded (s : State) (r : RoomId) (before after : HeldClass) : State :=
  if (s.room r).settings.events = .all ∨ (∃ x ∈ [before, after], x = .short ∨ x = .openLoop) then
    s.write { kind := .isolationChange, room := some r, detail := .heldChange before after }
  else s

/-- What a held-class change does in an occupied room, in the words of the classes (R143 to R145). -/
def classNotified (s : State) (r : RoomId) (before after : HeldClass) (first : Bool) : State :=
  if s.presentCount r = 0 then s
  else if first then if after = .active then s else isolationLostIn s r (lostState after) true
  else if before = .active then isolationLostIn s r (lostState after) false
  else if before ≠ .unknown ∧ after = .active then s.notify r { kind := .isolationRestored }
  else s

theorem classRecorded_roster (s : State) (r : RoomId) (before after : HeldClass) :
    (classRecorded s r before after).roster = s.roster := by
  unfold classRecorded
  split
  · exact s.write_roster _
  · rfl

theorem classRecorded_channels (s : State) (r : RoomId) (before after : HeldClass) :
    (classRecorded s r before after).channels = s.channels := by
  unfold classRecorded
  split
  · exact s.write_channels _
  · rfl

/-- The record stands before the other outputs, and the present count does not depend on it. -/
theorem classOutputs_eq (s : State) (r : RoomId) (before after : HeldClass) (first : Bool) :
    classOutputs s r before after first = classNotified (classRecorded s r before after) r before after first := by
  have count : (classRecorded s r before after).presentCount r = s.presentCount r := by
    unfold State.presentCount State.inRoom
    rw [classRecorded_roster]
  unfold classNotified
  rw [count]
  rfl

/-- The model reads the isolation states before and after; the classes say the same. -/
theorem State.isolationOutputs_eq {t : State} {r : RoomId} {before after : HeldClass}
    (now : (t.channel r).held = some after) (known : after ≠ .unknown) (changed : before ≠ after) (first : Bool) :
    t.isolationOutputs r before first = classNotified t r before after first := by
  have state : t.isolation r = isolationOf (some after) := congrArg isolationOf now
  have raised (atStart : Bool) : t.isolationLost r atStart = isolationLostIn t r (isolationOf (some after)) atStart :=
    state ▸ rfl
  unfold State.isolationOutputs classNotified
  simp only [state, raised, isolationOf_eq_confirmed, isolationOf_lost_iff]
  by_cases active : after = .active
  · have departed : before ≠ .active := active ▸ changed
    simp [active, departed]
  · simp [active, known, isolationOf_eq_lostState known active]

theorem State.classChanged_eq {t : State} {r : RoomId} {before after : HeldClass}
    (now : (t.channel r).held = some after) (known : after ≠ .unknown) (changed : before ≠ after) (first : Bool) :
    t.classChanged r before after first = classOutputs t r before after first := by
  have still : ((classRecorded t r before after).channel r).held = some after := by
    unfold State.channel
    rw [classRecorded_channels]
    exact now
  rw [classOutputs_eq, ← State.isolationOutputs_eq still known changed]
  unfold State.classChanged classRecorded
  simp only [selectsChange_iff]

/-! ### The outputs of a conversion (R139) -/

/-- The outputs of a channel's conversion from `k` to `k'`: those of its held-class change, and none where the held class
stays or the channel is disabled. -/
def conversionOutputs (s : State) (r : RoomId) (k k' : Channel) : State :=
  match k.held, k'.held with
  | some before, some after => if before = after then s else classOutputs s r before after k.fromStart
  | _, _ => s

theorem conversionOutputs_of_same {k k' : Channel} (same : k'.held = k.held) (s : State) (r : RoomId) :
    conversionOutputs s r k k' = s := by
  unfold conversionOutputs
  rw [same]
  cases k.held <;> simp

theorem conversionOutputs_of_change {k k' : Channel} {before after : HeldClass} (was : k.held = some before)
    (is : k'.held = some after) (changed : before ≠ after) (s : State) (r : RoomId) :
    conversionOutputs s r k k' = classOutputs s r before after k.fromStart := by
  simp [conversionOutputs, was, is, changed]

theorem State.convert_of_disabled {s : State} {r : RoomId} (disabled : (s.channel r).held = none) (v : BitVec 10) :
    s.convert r v = s := by
  simp only [State.convert, disabled]

theorem State.setChannel_channel (s : State) (r : RoomId) : s.setChannel r (s.channel r) = s := by
  have same : s.channels.set r.val (s.channel r) r.isLt = s.channels := Vector.set_getElem_self r.isLt
  unfold State.setChannel
  rw [same]

/-- A conversion replaces its channel and makes the outputs of its change. -/
theorem State.convert_eq (s : State) (r : RoomId) (v : BitVec 10) :
    s.convert r v =
      conversionOutputs (s.setChannel r (converted (s.channel r) v)) r (s.channel r) (converted (s.channel r) v) := by
  cases enabled : (s.channel r).held with
  | none =>
    rw [State.convert_of_disabled enabled, converted_of_disabled enabled, conversionOutputs_of_same rfl,
      State.setChannel_channel]
  | some held =>
    obtain ⟨channel, ⟨kept, same⟩ | ⟨told, now, changed⟩⟩ := Channel.debounce_cases enabled v
    · rw [conversionOutputs_of_same (same.trans enabled.symm)]
      simp [State.convert, enabled, channel, kept]
    · rw [conversionOutputs_of_change enabled now changed, ← State.classChanged_eq _ (classOf_ne_unknown v) changed]
      · simp [State.convert, enabled, channel, told]
      · rw [State.channel_setChannel_self, now]

/-! ### Outputs only add items and records, and read no channel -/

/-- Items are added to the queues and records to the journal, and nothing else changes. -/
structure Announced (s t : State) : Prop where
  told : Told s t
  queues : QueuesGrew s t
  journal : s.journal <+: t.journal

theorem Announced.refl (s : State) : Announced s s := ⟨Told.refl s, queuesGrew_refl s, List.prefix_rfl⟩

theorem Announced.trans {s t u : State} (h : Announced s t) (k : Announced t u) : Announced s u :=
  ⟨h.told.trans k.told, queuesGrew_trans h.queues k.queues, h.journal.trans k.journal⟩

theorem Announced.frame {s t : State} (h : Announced s t) :
    t = { s with ports := t.ports, journal := t.journal, gapPending := t.gapPending } := by
  obtain ⟨_, _, _, rfl⟩ := h.told.frame
  rfl

theorem State.write_announced (s : State) (e : JournalEntry) : Announced s (s.write e) :=
  ⟨s.write_told e, (s.write_pairingsOnly e).queues, s.journal_grew_write e⟩

theorem State.notify_announced (s : State) (r : RoomId) (n : Notice) : Announced s (s.notify r n) :=
  ⟨s.notify_told r n, s.notify_queuesGrew r n, s.notify_journal r n ▸ List.prefix_rfl⟩

theorem isolationLostIn_announced (s : State) (r : RoomId) (st : IsolationState) (atStart : Bool) :
    Announced s (isolationLostIn s r st atStart) :=
  (s.write_announced _).trans (State.notify_announced _ _ _)

theorem classRecorded_announced (s : State) (r : RoomId) (before after : HeldClass) :
    Announced s (classRecorded s r before after) := by
  unfold classRecorded
  split
  · exact s.write_announced _
  · exact .refl s

theorem classNotified_announced (s : State) (r : RoomId) (before after : HeldClass) (first : Bool) :
    Announced s (classNotified s r before after first) := by
  unfold classNotified
  split_ifs
  · exact .refl s
  · exact .refl s
  · exact isolationLostIn_announced s r _ _
  · exact isolationLostIn_announced s r _ _
  · exact s.notify_announced r _
  · exact .refl s

theorem conversionOutputs_announced (s : State) (r : RoomId) (k k' : Channel) :
    Announced s (conversionOutputs s r k k') := by
  unfold conversionOutputs
  split
  · split
    · exact .refl s
    · rw [classOutputs_eq]
      exact (classRecorded_announced s r _ _).trans (classNotified_announced _ r _ _ _)
  · exact .refl s

/-- The state with other channels. -/
def State.withChannels (s : State) (c : Vector Channel 16) : State := { s with channels := c }

section WithChannels
variable (s : State) (c : Vector Channel 16) (r : RoomId)

theorem State.write_withChannels (e : JournalEntry) : (s.withChannels c).write e = (s.write e).withChannels c := by
  unfold State.write
  rw [apply_ite (State.withChannels · c)]
  rfl

theorem State.notify_withChannels (n : Notice) : (s.withChannels c).notify r n = (s.notify r n).withChannels c := by
  rw [State.notify_eq_ports (s := s) (u := s.withChannels c) rfl rfl rfl,
    State.notify_eq_ports (s := s) (u := s) rfl rfl rfl]
  rfl

theorem isolationLostIn_withChannels (st : IsolationState) (atStart : Bool) :
    isolationLostIn (s.withChannels c) r st atStart = (isolationLostIn s r st atStart).withChannels c := by
  unfold isolationLostIn
  rw [State.write_withChannels, State.notify_withChannels]
  rfl

theorem classRecorded_withChannels (before after : HeldClass) :
    classRecorded (s.withChannels c) r before after = (classRecorded s r before after).withChannels c := by
  unfold classRecorded
  rw [State.write_withChannels, apply_ite (State.withChannels · c)]
  rfl

theorem classNotified_withChannels (before after : HeldClass) (first : Bool) :
    classNotified (s.withChannels c) r before after first =
      (classNotified s r before after first).withChannels c := by
  unfold classNotified
  simp only [isolationLostIn_withChannels, State.notify_withChannels, apply_ite (State.withChannels · c)]
  rfl

theorem classOutputs_withChannels (before after : HeldClass) (first : Bool) :
    classOutputs (s.withChannels c) r before after first = (classOutputs s r before after first).withChannels c := by
  rw [classOutputs_eq, classOutputs_eq, classRecorded_withChannels, classNotified_withChannels]

theorem conversionOutputs_withChannels (k k' : Channel) :
    conversionOutputs (s.withChannels c) r k k' = (conversionOutputs s r k k').withChannels c := by
  unfold conversionOutputs
  split
  · rw [classOutputs_withChannels, apply_ite (State.withChannels · c)]
  · rfl

end WithChannels

/-! ### The rooms in ascending order (R137) -/

theorem mem_allRooms (r : RoomId) : r ∈ allRooms := List.mem_finRange r

theorem allRooms_nodup : allRooms.Nodup := List.nodup_finRange 16

theorem State.channel_convert (s : State) (r x : RoomId) (v : BitVec 10) :
    (s.convert r v).channel x = if r = x then converted (s.channel r) v else s.channel x := by
  rw [State.convert_eq, (conversionOutputs_announced _ _ _ _).frame, ← State.channel_setChannel]
  rfl

theorem channel_conversions (values : Vector (BitVec 10) 16) (x : RoomId) (l : List RoomId) (nodup : l.Nodup)
    (s : State) :
    (l.foldl (fun t r => t.convert r (values.get r)) s).channel x =
      if x ∈ l then converted (s.channel x) (values.get x) else s.channel x := by
  induction l generalizing s with
  | nil => rfl
  | cons r l ih =>
    obtain ⟨notIn, nodup⟩ := List.nodup_cons.mp nodup
    rw [List.foldl_cons, ih nodup, State.channel_convert]
    by_cases here : r = x
    · subst here
      simp [notIn]
    · simp [here, Ne.symm here]

/-- The outputs of the conversions of a list of rooms, each channel read in the state `s` before the scan. -/
def scanOutputs (s : State) (values : Vector (BitVec 10) 16) (l : List RoomId) (t : State) : State :=
  l.foldl (fun t r => conversionOutputs t r (s.channel r) (converted (s.channel r) (values.get r))) t

section ScanOutputs
variable (s : State) (values : Vector (BitVec 10) 16)

theorem scanOutputs_announced (l : List RoomId) (t : State) : Announced t (scanOutputs s values l t) :=
  foldl_within Announced.refl Announced.trans (fun t r => conversionOutputs_announced t r _ _) l t

theorem scanOutputs_withChannels (c : Vector Channel 16) (l : List RoomId) (t : State) :
    scanOutputs s values l (t.withChannels c) = (scanOutputs s values l t).withChannels c := by
  unfold scanOutputs
  induction l generalizing t with
  | nil => rfl
  | cons r l ih => rw [List.foldl_cons, List.foldl_cons, conversionOutputs_withChannels, ih]

/-- A channel that is still to be converted stands as it was before the scan, so all outputs may be made first. -/
theorem conversions_eq_scanOutputs (l : List RoomId) (nodup : l.Nodup) (t : State)
    (before : ∀ r ∈ l, t.channel r = s.channel r) :
    ∃ c, l.foldl (fun t r => t.convert r (values.get r)) t = (scanOutputs s values l t).withChannels c := by
  induction l generalizing t with
  | nil => exact ⟨t.channels, rfl⟩
  | cons r l ih =>
    obtain ⟨notIn, nodup⟩ := List.nodup_cons.mp nodup
    have later : ∀ x ∈ l, (t.convert r (values.get r)).channel x = s.channel x := fun x hx => by
      rw [State.channel_convert, if_neg (ne_of_mem_of_not_mem hx notIn).symm, before x (List.mem_cons_of_mem r hx)]
    obtain ⟨c, rest⟩ := ih nodup _ later
    refine ⟨c, ?_⟩
    rw [List.foldl_cons, rest, State.convert_eq, before r List.mem_cons_self]
    show (scanOutputs s values l (conversionOutputs (t.withChannels _) r _ _)).withChannels c = _
    rw [conversionOutputs_withChannels, scanOutputs_withChannels]
    rfl

variable {s values}

/-- Rooms whose held class stays have no outputs. -/
theorem scanOutputs_of_same (l : List RoomId) (t : State)
    (same : ∀ r ∈ l, (converted (s.channel r) (values.get r)).held = (s.channel r).held) :
    scanOutputs s values l t = t := by
  unfold scanOutputs
  induction l generalizing t with
  | nil => rfl
  | cons r l ih =>
    rw [List.foldl_cons, conversionOutputs_of_same (same r List.mem_cons_self)]
    exact ih t fun x hx => same x (List.mem_cons_of_mem r hx)

/-- The outputs are those of the one room whose held class changes. -/
theorem scanOutputs_of_one {r : RoomId} {l : List RoomId} (mem : r ∈ l) (nodup : l.Nodup) (t : State)
    (same : ∀ x, x ≠ r → (converted (s.channel x) (values.get x)).held = (s.channel x).held) :
    scanOutputs s values l t = conversionOutputs t r (s.channel r) (converted (s.channel r) (values.get r)) := by
  induction l generalizing t with
  | nil => cases mem
  | cons x l ih =>
    obtain ⟨notIn, nodup⟩ := List.nodup_cons.mp nodup
    show scanOutputs s values l (conversionOutputs t x _ _) = _
    by_cases here : x = r
    · subst here
      exact scanOutputs_of_same l _ fun y hy => same y (ne_of_mem_of_not_mem hy notIn)
    · rw [conversionOutputs_of_same (same x here)]
      exact ih ((List.mem_cons.mp mem).resolve_left (Ne.symm here)) nodup t

end ScanOutputs

/-- A scan while RUNNING makes the outputs of its conversions and puts the converted channels in their places (R137). -/
theorem exec_isolationScan {s : State} (running : s.part = .running) (values : Vector (BitVec 10) 16) :
    ∃ c : Vector Channel 16,
      exec (.isolationScan values) s = .next ((scanOutputs s values allRooms s).withChannels c) ∧
        ∀ r : RoomId, c.get r = converted (s.channel r) (values.get r) := by
  obtain ⟨c, scanned⟩ := conversions_eq_scanOutputs s values allRooms allRooms_nodup s fun _ _ => rfl
  refine ⟨c, ?_, fun r => ?_⟩
  · rw [← scanned]
    exact congrArg Host.Outcome.next (if_pos running)
  · have channel := channel_conversions values r allRooms allRooms_nodup s
    rw [if_pos (mem_allRooms r), scanned] at channel
    exact channel

/-- Settles O54: the channels are those of the conversions and all else is their outputs; these are nothing where no held
class changes, and those of one change where one alone does. -/
theorem isolationScanned : Obligations.IsolationScanned := by
  unfold Obligations.IsolationScanned
  intro s values running
  obtain ⟨c, taken, channel⟩ := exec_isolationScan running values
  have held (x : RoomId) : (c.get x).held = (converted (s.channel x) (values.get x)).held :=
    congrArg Channel.held (channel x)
  have announced := scanOutputs_announced s values allRooms s
  refine ⟨_, taken, channel, announced.queues, announced.journal, fun same => ?_,
    fun r before after was is changed same => ?_, congrArg (State.withChannels · c) announced.frame⟩
  · rw [scanOutputs_of_same allRooms s fun x _ => (held x).symm.trans (same x)]
    rfl
  · have outputs := scanOutputs_of_one (mem_allRooms r) allRooms_nodup s fun x other =>
      (held x).symm.trans (same x other)
    rw [conversionOutputs_of_change was ((held r).symm.trans is) changed] at outputs
    show _ = classOutputs (s.withChannels c) r before after _
    rw [outputs, classOutputs_withChannels]

end Sys2Proof.Machine
end

section
/-! PROOF. EVACUATE START and END (R148 to R151, R156). The evacuation logic neither reads nor changes the link, so the reply
is set apart from it. A start and an end each go through a list of rooms; what a list of rooms has become is a relation that
the rooms extend one by one. -/

namespace Sys2Proof.Machine

open Sys2Proof.Claims

/-! ### A journal record changes the journal alone (R180) -/

theorem State.write_frame (s : State) (e : JournalEntry) :
    s.write e = { s with journal := (s.write e).journal, gapPending := (s.write e).gapPending } := by
  unfold State.write
  split <;> rfl

/-- The state in which the rooms of an evacuation are gone through: its items set, the reply given, its record written. -/
theorem State.write_evac_link (s : State) (e : Evac) (l : Link) (x : JournalEntry) :
    ({ s with evac := e, link := l } : State).write x =
      { s with evac := e, link := l, journal := (s.write x).journal, gapPending := (s.write x).gapPending } := by
  obtain ⟨journal, gap⟩ :=
    journaled_write (s := s) (u := ({ s with evac := e, link := l } : State)) rfl rfl rfl x
  rw [State.write_frame, journal, gap]

/-! ### Freezing the records of a room (R151) -/

theorem frozen_frozen (now : EstateTime) (o : Occupant) : frozen now (frozen now o) = frozen now o := by
  by_cases arriving : o.state = .arriving <;> simp [frozen, arriving]

/-- The state with another roster and other entries. -/
def State.withRecords (s : State) (roster : List Occupant) (deadlines : List Deadline) : State :=
  { s with roster := roster, deadlines := deadlines }

/-- The records of a list of credentials are frozen and their entries gone. -/
def State.frozenOf (s : State) (l : List Credential) : State :=
  s.withRecords (s.roster.map fun x => if x.cred ∈ l then frozen s.now x else x)
    (s.deadlines.filter fun e => !(l.any fun c => e.owner.ofRecord c))

theorem State.freeze_eq (s : State) (o : Occupant) : s.freeze o = s.frozenOf [o.cred] := by
  refine congrArg₂ s.withRecords (List.map_congr_left fun x _ => ?_) (List.filter_congr fun e _ => ?_)
  · by_cases arriving : x.state = .arriving <;> simp [frozen, arriving, State.now]
  · simp

theorem State.frozenOf_append (s : State) (l k : List Credential) : (s.frozenOf l).frozenOf k = s.frozenOf (l ++ k) := by
  refine congrArg₂ s.withRecords (List.map_map.trans (List.map_congr_left fun x _ => ?_)) ?_
  · by_cases first : x.cred ∈ l <;> by_cases second : x.cred ∈ k <;>
      simp [first, second, frozen_frozen, State.now, State.frozenOf, State.withRecords]
  · simp [State.frozenOf, State.withRecords, List.filter_filter, Bool.and_comm]

theorem State.foldl_freeze (s : State) (l : List Occupant) :
    l.foldl State.freeze s = s.frozenOf (l.map fun o => o.cred) := by
  induction l generalizing s with
  | nil => simp [State.frozenOf, State.withRecords]
  | cons o l ih => rw [List.foldl_cons, ih, State.freeze_eq, State.frozenOf_append]; rfl

/-- A credential of a record of the roster is that of a room's record where the record stands in the room (R90). -/
theorem State.cred_mem_inRoom {s : State} (unique : (s.roster.map fun o => o.cred).Nodup) {o : Occupant}
    (mem : o ∈ s.roster) (r : RoomId) : o.cred ∈ (s.inRoom r).map (fun x => x.cred) ↔ o.room = r := by
  simp only [State.inRoom, List.mem_map, List.mem_filter, beq_iff_eq]
  refine ⟨fun ⟨x, ⟨found, room⟩, same⟩ => ?_, fun room => ⟨o, ⟨mem, room⟩, rfl⟩⟩
  rw [← List.inj_on_of_nodup_map unique found mem same]
  exact room

/-- A room's records are frozen and their entries gone (R151). -/
def State.freezeRoom (s : State) (r : RoomId) : State :=
  s.withRecords (s.roster.map fun o => if o.room = r then frozen s.now o else o)
    (s.deadlines.filter fun e => !(s.roster.any fun o => o.room == r && e.owner.ofRecord o.cred))

theorem State.foldl_freeze_inRoom {s : State} (unique : (s.roster.map fun o => o.cred).Nodup) (r : RoomId) :
    (s.inRoom r).foldl State.freeze s = s.freezeRoom r := by
  rw [State.foldl_freeze]
  refine congrArg₂ s.withRecords (List.map_congr_left fun o mem => ?_) (List.filter_congr fun e _ => ?_)
  · simp only [State.cred_mem_inRoom unique mem]
  · simp [State.inRoom, List.any_filter, Function.comp_def]

/-! ### Rooms taken into an evacuation (R150) -/

/-- A room's mode is EVACUATING, and the pairings at its doors have ended (R150, steps 1 and 2). -/
def State.roomCleared (s : State) (r : RoomId) : State := (s.setMode r .evacuating).endRoomPairings r .evac

section RoomCleared
variable (s : State) (r : RoomId)

theorem State.roomCleared_pairingsOnly : PairingsOnly (s.setMode r .evacuating) (s.roomCleared r) :=
  State.endRoomPairings_pairingsOnly _ r .evac

theorem State.roomCleared_ended : PairingsEnded s (s.roomCleared r) r .evac :=
  State.endRoomPairings_ended (u := s.setMode r .evacuating) rfl rfl r .evac

theorem State.roomCleared_roster : (s.roomCleared r).roster = s.roster := by
  obtain ⟨_, _, _, _, _, frame⟩ := (s.roomCleared_pairingsOnly r).frame
  rw [frame]
  rfl

theorem State.roomCleared_now : (s.roomCleared r).now = s.now := by
  obtain ⟨_, _, _, _, _, frame⟩ := (s.roomCleared_pairingsOnly r).frame
  rw [frame]
  rfl

theorem State.roomCleared_room (x : RoomId) :
    (s.roomCleared r).room x = if r = x then { s.room r with mode := .evacuating } else s.room x := by
  obtain ⟨_, _, _, _, _, frame⟩ := (s.roomCleared_pairingsOnly r).frame
  rw [frame]
  exact s.room_setRoom r x _

/-- The room cleared and its records frozen, in the words of the statements. -/
theorem State.freezeRoom_roomCleared :
    (s.roomCleared r).freezeRoom r =
      (s.roomCleared r).withRecords ((s.roomCleared r).roster.map fun o => if o.room = r then frozen s.now o else o)
        ((s.roomCleared r).deadlines.filter fun e =>
          !(s.roster.any fun o => o.room == r && e.owner.ofRecord o.cred)) := by
  simp only [State.freezeRoom, State.roomCleared_roster, State.roomCleared_now]

end RoomCleared

section
variable {s : State} (unique : (s.roster.map fun o => o.cred).Nodup) (r : RoomId)
include unique

theorem State.evacuateRoom_eq :
    s.evacuateRoom r = ((s.roomCleared r).freezeRoom r).notify r { kind := .evacRelease } := by
  rw [← State.foldl_freeze_inRoom (s.roomCleared_roster r ▸ unique)]
  rfl

/-- A room in use is taken as the statements say it. -/
theorem State.evacuateRoom_eq_roomTaken : s.evacuateRoom r = roomTaken s r := by
  have cleared : s.roomCleared r =
      (s.doorsOfRoom r).foldl (fun u d => (s.pairing d).elim u fun q => slotRefused u d q .evac none)
        ({ s with rooms := (s.setRoom r { s.room r with mode := .evacuating }).rooms } : State) :=
    State.endRoomPairings_eq_slotRefused (u := s.setMode r .evacuating) rfl rfl r .evac
  rw [State.evacuateRoom_eq unique, State.freezeRoom_roomCleared, cleared]
  rfl

/-- The notice to the room's doors is told apart. -/
theorem State.evacuateRoom_notified :
    s.evacuateRoom r = { (s.roomCleared r).freezeRoom r with ports := (s.evacuateRoom r).ports } := by
  have notified := State.notify_eq_ports (s := (s.roomCleared r).freezeRoom r) rfl rfl rfl r { kind := .evacRelease }
  rwa [← State.evacuateRoom_eq unique] at notified

theorem State.evacuateRoom_roster :
    (s.evacuateRoom r).roster = s.roster.map fun o => if o.room = r then frozen s.now o else o := by
  rw [State.evacuateRoom_notified unique, State.freezeRoom_roomCleared]
  exact congrArg _ (s.roomCleared_roster r)

theorem State.evacuateRoom_deadlines :
    (s.evacuateRoom r).deadlines = (s.roomCleared r).deadlines.filter fun e =>
      !(s.roster.any fun o => o.room == r && e.owner.ofRecord o.cred) := by
  rw [State.evacuateRoom_notified unique, State.freezeRoom_roomCleared]
  rfl

theorem State.evacuateRoom_queuesGrew : QueuesGrew (s.roomCleared r) (s.evacuateRoom r) := by
  rw [State.evacuateRoom_eq unique]
  exact State.notify_queuesGrew ((s.roomCleared r).freezeRoom r) r _

end

/-- What has become of the part once a list of rooms has been taken into an evacuation (R150, R151). -/
structure RoomsTaken (s : State) (l : List RoomId) (t : State) : Prop where
  frame : t = { s with
    rooms := t.rooms, roster := t.roster, deadlines := t.deadlines, pairings := t.pairings, ports := t.ports
    journal := t.journal, gapPending := t.gapPending }
  room : ∀ x : RoomId, t.room x = if x ∈ l then { s.room x with mode := .evacuating } else s.room x
  roster : t.roster = s.roster.map fun o => if o.room ∈ l then frozen s.now o else o
  deadlines : t.deadlines ⊆ s.deadlines
  freed : ∀ o ∈ s.roster, o.room ∈ l → ∀ e ∈ t.deadlines, e.owner.ofRecord o.cred = false
  pairing : ∀ d : DoorId, t.pairing d = if (s.door d).any (fun m => decide (m.room ∈ l)) then none else s.pairing d
  ended : ∀ d : DoorId, ∀ m ∈ s.door d, m.room ∈ l → ∀ q ∈ s.pairing d,
    .decision (doorByte d) q.cred (.refuse .evac) ∈ (t.port m.port).queue ∧ ∀ e ∈ t.deadlines, e.owner ≠ .pair d
  queues : QueuesGrew s t
  journal : s.journal <+: t.journal

theorem RoomsTaken.nil (s : State) : RoomsTaken s [] s where
  frame := rfl
  room _ := rfl
  roster := by simp
  deadlines := List.Subset.refl _
  freed _ _ h := by cases h
  pairing d := by cases h : s.door d <;> simp
  ended _ _ _ h := by cases h
  queues := queuesGrew_refl s
  journal := List.prefix_rfl

section
variable {s t u : State} {l k : List RoomId}

theorem RoomsTaken.now (h : RoomsTaken s l t) : t.now = s.now := by rw [h.frame]; rfl

theorem RoomsTaken.door (h : RoomsTaken s l t) (d : DoorId) : t.door d = s.door d := by rw [h.frame]; rfl

theorem RoomsTaken.creds (h : RoomsTaken s l t) : t.roster.map (fun o => o.cred) = s.roster.map fun o => o.cred := by
  rw [h.roster, List.map_map]
  refine List.map_congr_left fun o _ => ?_
  rw [Function.comp_apply]
  split <;> rfl

/-- Rooms taken after others. A slot that the first rooms left filled is still filled when the others are taken. -/
theorem RoomsTaken.append (h : RoomsTaken s l t) (more : RoomsTaken t k u) : RoomsTaken s (l ++ k) u where
  frame := by
    rw [more.frame, h.frame]
  room x := by
    rw [more.room, h.room]
    by_cases first : x ∈ l <;> by_cases second : x ∈ k <;> simp [first, second]
  roster := by
    rw [more.roster, h.roster, h.now, List.map_map]
    refine List.map_congr_left fun o _ => ?_
    have room : (frozen s.now o).room = o.room := rfl
    by_cases first : o.room ∈ l <;> by_cases second : o.room ∈ k <;> simp [first, second, room, frozen_frozen]
  deadlines := List.Subset.trans more.deadlines h.deadlines
  freed o mem room e he := by
    by_cases first : o.room ∈ l
    · exact h.freed o mem first e (more.deadlines he)
    · have kept : o ∈ t.roster := by
        rw [h.roster]
        exact List.mem_map.mpr ⟨o, mem, if_neg first⟩
      exact more.freed o kept ((List.mem_append.mp room).resolve_left first) e he
  pairing d := by
    rw [more.pairing, h.pairing, h.door]
    cases s.door d with
    | none => rfl
    | some m => by_cases first : m.room ∈ l <;> by_cases second : m.room ∈ k <;> simp [first, second]
  ended d m door room q slot := by
    by_cases first : m.room ∈ l
    · obtain ⟨placed, gone⟩ := h.ended d m door first q slot
      exact ⟨(more.queues m.port).subset placed, fun e he => gone e (more.deadlines he)⟩
    · have kept : q ∈ t.pairing d := by
        rw [h.pairing, Option.mem_def.mp door]
        simpa [first] using slot
      exact more.ended d m (h.door d ▸ door) ((List.mem_append.mp room).resolve_left first) q kept
  queues := queuesGrew_trans h.queues more.queues
  journal := h.journal.trans more.journal

end

theorem State.evacuateRoom_taken {s : State} (unique : (s.roster.map fun o => o.cred).Nodup) (r : RoomId) :
    RoomsTaken s [r] (s.evacuateRoom r) := by
  have only := s.roomCleared_pairingsOnly r
  obtain ⟨pairing, ended⟩ := s.roomCleared_ended r
  have notified := State.evacuateRoom_notified unique r
  have deadlines := State.evacuateRoom_deadlines unique r
  have grown := State.evacuateRoom_queuesGrew unique r
  have fewer : (s.evacuateRoom r).deadlines ⊆ (s.roomCleared r).deadlines := by
    rw [deadlines]
    exact List.filter_subset_self _
  refine
    { frame := ?frame, room := fun x => ?room, roster := ?roster
      deadlines := List.Subset.trans fewer only.deadlines, freed := fun o mem here e he => ?freed
      pairing := fun d => ?pairing, ended := fun d m door here q slot => ?ended
      queues := queuesGrew_trans only.queues grown, journal := ?journal }
  case frame =>
    rw [notified]
    obtain ⟨_, _, _, _, _, frame⟩ := only.frame
    rw [frame]
    rfl
  case room =>
    rw [notified]
    refine (s.roomCleared_room r x).trans ?_
    by_cases here : r = x
    · simp [here]
    · simp [here, Ne.symm here]
  case roster =>
    simp only [State.evacuateRoom_roster unique, List.mem_singleton]
  case freed =>
    rw [deadlines, List.mem_filter] at he
    have free : ∀ x ∈ s.roster, x.room = r → e.owner.ofRecord x.cred = false := by simpa using he.2
    exact free o mem (List.mem_singleton.mp here)
  case pairing =>
    rw [notified]
    refine (pairing d).trans ?_
    simp only [List.mem_singleton, beq_eq_decide]
  case ended =>
    obtain ⟨placed, gone⟩ := ended d m door (List.mem_singleton.mp here) q slot
    exact ⟨(grown m.port).subset placed, fun e he => gone e (fewer he)⟩
  case journal =>
    rw [notified]
    exact only.journal

/-- The rooms of a list taken one by one, in the words of the statements too. -/
theorem foldl_evacuateRoom (l : List RoomId) {s : State} (unique : (s.roster.map fun o => o.cred).Nodup) :
    l.foldl State.evacuateRoom s = l.foldl roomTaken s ∧ RoomsTaken s l (l.foldl roomTaken s) := by
  induction l generalizing s with
  | nil => exact ⟨rfl, .nil s⟩
  | cons r l ih =>
    have first := State.evacuateRoom_taken unique r
    obtain ⟨same, rest⟩ := ih (s := s.evacuateRoom r) (first.creds ▸ unique)
    rw [List.foldl_cons, List.foldl_cons, ← State.evacuateRoom_eq_roomTaken unique]
    exact ⟨same, first.append rest⟩

/-! ### The start of an evacuation (R150) -/

theorem State.mem_usedRooms (s : State) (r : RoomId) : r ∈ usedRooms s ↔ (s.room r).settings.inUse = true := by
  simp [usedRooms, mem_allRooms]

theorem State.rooms_ext {s : State} {f : Room → Room} {v : Vector Room 16} (h : ∀ r : RoomId, v.get r = f (s.room r)) :
    v = s.rooms.map f := by
  refine Vector.ext fun i hi => ?_
  rw [Vector.getElem_map]
  exact h ⟨i, hi⟩

/-- The EVAC_START record (R150). -/
def evacStartEntry (s : State) (src : Source) : JournalEntry :=
  { kind := .evacStart, detail := .evacStart src s.roster.length }

theorem State.evacStart_eq (s : State) (src : Source) :
    s.evacStart src =
      (usedRooms s).foldl State.evacuateRoom
        (({ s with evac := { s.evac with active := true } } : State).write (evacStartEntry s src)) := rfl

/-- The evacuation logic's start, its items and the link set before it, is the start of an evacuation. -/
theorem evacuationBegun {s t : State} {e : Evac} {l : Link} (unique : (s.roster.map fun o => o.cred).Nodup)
    (src : Source) (ht : t = ({ s with evac := e, link := l } : State).evacStart src) :
    EvacuationBegun s t src ∧ t.evac = { e with active := true } ∧ t.link = l ∧
      t = { s with evac := t.evac, rooms := t.rooms, roster := t.roster, deadlines := t.deadlines
                   pairings := t.pairings, ports := t.ports, link := t.link, journal := t.journal
                   gapPending := t.gapPending } := by
  have start := s.write_evac_link { e with active := true } l (evacStartEntry s src)
  obtain ⟨same, taken⟩ := foldl_evacuateRoom (usedRooms s)
    (s := ({ s with evac := { e with active := true }, link := l } : State).write (evacStartEntry s src))
    (by simpa using unique)
  replace ht := (ht.trans (State.evacStart_eq _ src)).trans same
  rw [← ht, start] at taken
  have evac : t.evac = { e with active := true } := by rw [taken.frame]
  have link : t.link = l := by rw [taken.frame]
  have inUse (r : RoomId) : r ∈ usedRooms s ↔ (s.room r).settings.inUse = true := s.mem_usedRooms r
  refine ⟨⟨evac ▸ rfl, ?whole, ?rooms, ?roster, ?freed, ?pairing, ?ended, taken.queues, taken.journal⟩, evac, link, ?frame⟩
  case whole =>
    rw [evac, link]
    exact ht
  case rooms =>
    refine State.rooms_ext fun r => (taken.room r).trans ?_
    simp only [inUse]
    rfl
  case roster =>
    refine taken.roster.trans ?_
    simp only [inUse]
    rfl
  case freed => exact fun o mem used => taken.freed o mem ((inUse _).mpr used)
  case pairing =>
    refine fun d => (taken.pairing d).trans ?_
    simp only [inUse, Bool.decide_eq_true]
    rfl
  case ended => exact fun d m door used => taken.ended d m door ((inUse _).mpr used)
  case frame => rw [taken.frame]

/-! ### Rooms that leave an evacuation (R156) -/

theorem roomAfterEvacuation_of_empty {s : State} {r : RoomId} (mode : (s.room r).mode = .evacuating)
    (empty : s.presentCount r = 0) : roomAfterEvacuation s r = { s.room r with mode := (s.room r).prior } := by
  rw [roomAfterEvacuation, if_pos mode, if_pos empty]

theorem roomAfterEvacuation_of_occupied {s : State} {r : RoomId} (mode : (s.room r).mode = .evacuating)
    (occupied : 0 < s.presentCount r) : roomAfterEvacuation s r = { s.room r with mode := .muster } := by
  rw [roomAfterEvacuation, if_pos mode, if_neg (Nat.ne_of_gt occupied)]

theorem State.presentCount_pos {s : State} {r : RoomId} : 0 < s.presentCount r ↔ ∃ o ∈ s.roster, o.room = r := by
  simp [State.presentCount, State.inRoom, List.length_pos_iff_exists_mem]

/-- An EVACUATING room leaves the evacuation as the statements say it. -/
theorem State.endEvacuationRoom_eq_roomLeft {s : State} {r : RoomId} (mode : (s.room r).mode = .evacuating) :
    s.endEvacuationRoom r = roomLeft s r := by
  unfold State.endEvacuationRoom roomLeft
  dsimp only
  by_cases occupied : 0 < s.presentCount r
  · rw [if_pos occupied, roomAfterEvacuation_of_occupied mode occupied]
    have roster : (s.roster.map fun x => if x.room == r then musterRecord x else x) =
        s.roster.map fun o => if o.room = r then unaccounted o else o :=
      List.map_congr_left fun x _ => by simp only [beq_iff_eq]; rfl
    have told : (({ s.setMode r .muster with
        roster := s.roster.map fun x => if x.room == r then musterRecord x else x } : State).room r).mode = .muster :=
      congrArg Room.mode (s.room_setRoom_self r _)
    rw [told, roster]
    rfl
  · rw [if_neg occupied, roomAfterEvacuation_of_empty mode (Nat.eq_zero_of_not_pos occupied)]
    have roster : (s.roster.map fun o => if o.room = r then unaccounted o else o) = s.roster :=
      (List.map_congr_left fun o mem =>
        if_neg fun here => occupied (State.presentCount_pos.mpr ⟨o, mem, here⟩)).trans (List.map_id' _)
    have told : ((s.setMode r (s.room r).prior).room r).mode = (s.room r).prior :=
      congrArg Room.mode (s.room_setRoom_self r _)
    rw [told, roster]
    rfl

/-- What has become of the part once a list of rooms has left an evacuation (R156). -/
structure RoomsLeft (s : State) (l : List RoomId) (t : State) : Prop where
  frame : t = { s with rooms := t.rooms, roster := t.roster, ports := t.ports }
  room : ∀ x : RoomId, t.room x = if x ∈ l then roomAfterEvacuation s x else s.room x
  roster : t.roster = s.roster.map fun o => if o.room ∈ l then unaccounted o else o
  queues : QueuesGrew s t

theorem RoomsLeft.nil (s : State) : RoomsLeft s [] s where
  frame := rfl
  room _ := rfl
  roster := by simp
  queues := queuesGrew_refl s

theorem RoomsLeft.presentCount {s t : State} {l : List RoomId} (h : RoomsLeft s l t) (r : RoomId) :
    t.presentCount r = s.presentCount r := by
  have room (o : Occupant) : (if o.room ∈ l then unaccounted o else o).room = o.room := by split <;> rfl
  simp only [State.presentCount, State.inRoom, h.roster, List.filter_map, List.length_map, Function.comp_def, room]

/-- Rooms that leave after others. -/
theorem RoomsLeft.append {s t u : State} {l k : List RoomId} (h : RoomsLeft s l t) (more : RoomsLeft t k u)
    (apart : l.Disjoint k) : RoomsLeft s (l ++ k) u where
  frame := by
    rw [more.frame, h.frame]
  room x := by
    rw [more.room]
    by_cases second : x ∈ k
    · have first : x ∉ l := fun first => apart first second
      simp [first, second, roomAfterEvacuation, h.room, h.presentCount]
    · simp [second, h.room]
  roster := by
    rw [more.roster, h.roster, List.map_map]
    refine List.map_congr_left fun o _ => ?_
    by_cases second : o.room ∈ k
    · have first : o.room ∉ l := fun first => apart first second
      simp [first, second]
    · have room : (unaccounted o).room = o.room := rfl
      by_cases first : o.room ∈ l <;> simp [first, second, room]
  queues := queuesGrew_trans h.queues more.queues

theorem roomLeft_left (s : State) (r : RoomId) : RoomsLeft s [r] (roomLeft s r) := by
  have notified : roomLeft s r = _ := State.notify_eq_ports rfl rfl rfl r _
  have grown : QueuesGrew s (roomLeft s r) := State.notify_queuesGrew
    ({ s with
      rooms := (s.setRoom r (roomAfterEvacuation s r)).rooms
      roster := s.roster.map fun o => if o.room = r then unaccounted o else o } : State) r _
  refine ⟨?_, fun x => ?_, ?_, grown⟩
  · rw [notified]
  · rw [notified]
    refine (s.room_setRoom r x _).trans ?_
    by_cases here : r = x
    · simp [here]
    · simp [here, Ne.symm here]
  · rw [notified]
    simp only [List.mem_singleton]

/-- A room still to leave stands as it was before the first left, so the statements' words hold of each in its turn. -/
theorem foldl_endEvacuationRoom {l : List RoomId} (nodup : l.Nodup) {s : State}
    (evacuating : ∀ r ∈ l, (s.room r).mode = .evacuating) :
    l.foldl State.endEvacuationRoom s = l.foldl roomLeft s ∧ RoomsLeft s l (l.foldl roomLeft s) := by
  induction l generalizing s with
  | nil => exact ⟨rfl, .nil s⟩
  | cons r l ih =>
    obtain ⟨notIn, nodup⟩ := List.nodup_cons.mp nodup
    have first := roomLeft_left s r
    have later : ∀ x ∈ l, ((roomLeft s r).room x).mode = .evacuating := fun x hx => by
      have other : x ∉ [r] := fun here => notIn (List.mem_singleton.mp here ▸ hx)
      rw [first.room, if_neg other]
      exact evacuating x (List.mem_cons_of_mem r hx)
    obtain ⟨same, rest⟩ := ih nodup later
    rw [List.foldl_cons, List.foldl_cons, State.endEvacuationRoom_eq_roomLeft (evacuating r List.mem_cons_self)]
    exact ⟨same, first.append rest (List.singleton_disjoint.mpr notIn)⟩

/-! ### The end of an evacuation (R156) -/

theorem State.mem_evacuatingRooms (s : State) (r : RoomId) : r ∈ s.evacuatingRooms ↔ (s.room r).mode = .evacuating := by
  simp [State.evacuatingRooms, mem_allRooms]

/-- The records of a list of rooms, counted room by room. -/
theorem State.sum_presentCount (s : State) {l : List RoomId} (nodup : l.Nodup) :
    (l.map s.presentCount).sum = (s.roster.filter fun o => decide (o.room ∈ l)).length := by
  induction l with
  | nil => simp
  | cons r l ih =>
    obtain ⟨notIn, nodup⟩ := List.nodup_cons.mp nodup
    rw [List.map_cons, List.sum_cons, ih nodup, State.presentCount, State.inRoom]
    simp only [← List.countP_eq_length_filter, List.mem_cons]
    induction s.roster with
    | nil => rfl
    | cons o rest ih =>
      simp only [List.countP_cons, ← ih]
      by_cases here : o.room = r
      · simp [here, notIn]
        omega
      · simp [here]
        omega

/-- The rooms about to enter MUSTER: EVACUATING with records (R156). -/
def enteringMuster (s : State) : List RoomId :=
  allRooms.filter fun r => (s.room r).mode == .evacuating && decide (0 < s.presentCount r)

/-- The EVAC_END record (R156). -/
def evacEndEntry (s : State) (src : Source) : JournalEntry :=
  { kind := .evacEnd
    detail := .evacEnd src (enteringMuster s).length
      (s.roster.filter fun o => (s.room o.room).mode == .evacuating).length }

theorem State.entering_eq (s : State) :
    (s.evacuatingRooms.filter fun r => decide (0 < s.presentCount r)) = enteringMuster s := by
  simp only [State.evacuatingRooms, enteringMuster, List.filter_filter, Bool.and_comm]

/-- Every record of an EVACUATING room stands in a room about to enter MUSTER. -/
theorem State.records_entering (s : State) :
    ((enteringMuster s).map s.presentCount).foldl (· + ·) 0 =
      (s.roster.filter fun o => (s.room o.room).mode == .evacuating).length := by
  rw [← List.sum_eq_foldl, s.sum_presentCount (l := enteringMuster s) (allRooms_nodup.filter _)]
  refine congrArg List.length (List.filter_congr fun o mem => ?_)
  have occupied : 0 < s.presentCount o.room := State.presentCount_pos.mpr ⟨o, mem, rfl⟩
  simp [enteringMuster, mem_allRooms, occupied, beq_eq_decide]

theorem State.evacEnd_eq (s : State) (src : Source) :
    s.evacEnd src =
      s.evacuatingRooms.foldl State.endEvacuationRoom
        (({ s with evac := { s.evac with active := false } } : State).write (evacEndEntry s src)) := by
  unfold evacEndEntry
  rw [← s.records_entering, ← s.entering_eq]
  rfl

/-- The evacuation logic's end, its items and the link set before it, is the end of an evacuation. -/
theorem evacuationEnded {s t : State} {e : Evac} {l : Link} (src : Source)
    (ht : t = ({ s with evac := e, link := l } : State).evacEnd src) :
    EvacuationEnded s t src ∧ t.evac = { e with active := false } ∧ t.link = l ∧
      t = { s with evac := t.evac, rooms := t.rooms, roster := t.roster, ports := t.ports, link := t.link
                   journal := t.journal, gapPending := t.gapPending } := by
  have start := s.write_evac_link { e with active := false } l (evacEndEntry s src)
  have evacuating (r : RoomId) : r ∈ s.evacuatingRooms ↔ (s.room r).mode = .evacuating := s.mem_evacuatingRooms r
  obtain ⟨same, left⟩ := foldl_endEvacuationRoom (l := s.evacuatingRooms) (allRooms_nodup.filter _)
    (s := ({ s with evac := { e with active := false }, link := l } : State).write (evacEndEntry s src))
    fun r hr => by
      rw [start]
      exact (evacuating r).mp hr
  replace ht := (ht.trans (State.evacEnd_eq _ src)).trans same
  rw [← ht, start] at left
  have evac : t.evac = { e with active := false } := by rw [left.frame]
  have link : t.link = l := by rw [left.frame]
  refine ⟨⟨evac ▸ rfl, ⟨_, _, rfl, rfl, ?whole⟩, fun r => ?room, ?roster, left.queues, _, _, rfl, rfl, ?journaled⟩,
    evac, link, ?frame⟩
  case whole =>
    rw [evac, link]
    exact ht
  case room =>
    refine (left.room r).trans ?_
    simp only [evacuating]
    split
    · rfl
    · next other => exact (if_neg other).symm
  case roster =>
    refine left.roster.trans ?_
    simp only [evacuating]
  case journaled =>
    rw [left.frame]
    exact ⟨rfl, rfl⟩
  case frame => rw [left.frame]

/-! ### The evacuation logic stands apart from the link -/

theorem State.notify_withLink (s : State) (l : Link) (r : RoomId) (n : Notice) :
    (s.withLink l).notify r n = (s.notify r n).withLink l := by
  rw [State.notify_eq_ports (s := s) (u := s.withLink l) rfl rfl rfl, State.notify_eq_ports (s := s) (u := s) rfl rfl rfl]
  rfl

theorem State.evacuateRoom_withLink (s : State) (l : Link) (r : RoomId) :
    (s.withLink l).evacuateRoom r = (s.evacuateRoom r).withLink l := by
  have cleared : (s.withLink l).roomCleared r = (s.roomCleared r).withLink l :=
    State.endRoomPairings_withLink (s.setMode r .evacuating) l r .evac
  have freezes (t : State) : ((t.withLink l).inRoom r).foldl State.freeze (t.withLink l) =
      ((t.inRoom r).foldl State.freeze t).withLink l :=
    List.foldl_hom (State.withLink · l) fun _ _ => rfl
  show (((s.withLink l).roomCleared r).inRoom r |>.foldl State.freeze ((s.withLink l).roomCleared r)).notify r _ = _
  rw [cleared, freezes, State.notify_withLink]
  rfl

theorem State.endEvacuationRoom_withLink (s : State) (l : Link) (r : RoomId) :
    (s.withLink l).endEvacuationRoom r = (s.endEvacuationRoom r).withLink l := by
  unfold State.endEvacuationRoom
  dsimp only
  rw [← State.notify_withLink]
  by_cases occupied : 0 < s.presentCount r
  · rw [if_pos occupied, if_pos (by exact occupied)]
    rfl
  · rw [if_neg occupied, if_neg (by exact occupied)]
    rfl

theorem State.evacStart_withLink (s : State) (l : Link) (src : Source) :
    (s.withLink l).evacStart src = (s.evacStart src).withLink l := by
  have record := State.write_withLink { s with evac := { s.evac with active := true } } l (evacStartEntry s src)
  rw [State.evacStart_eq s, ← List.foldl_hom (State.withLink · l) fun t r => t.evacuateRoom_withLink l r, ← record]
  rfl

theorem State.evacEnd_withLink (s : State) (l : Link) (src : Source) :
    (s.withLink l).evacEnd src = (s.evacEnd src).withLink l := by
  have record := State.write_withLink { s with evac := { s.evac with active := false } } l (evacEndEntry s src)
  rw [State.evacEnd_eq s, ← List.foldl_hom (State.withLink · l) fun t r => t.endEvacuationRoom_withLink l r, ← record]
  exact State.evacEnd_eq (s.withLink l) src

theorem State.evacTest_withLink (s : State) (l : Link) (src : Source) :
    (s.withLink l).evacTest src = (s.evacTest src).withLink l := by
  unfold State.evacTest
  rw [State.evacStart_withLink, State.evacEnd_withLink, apply_ite (State.withLink · l), apply_ite (State.withLink · l)]
  rfl

/-! ### The test of the three sources (R148) -/

theorem State.evacTest_begins {s : State} (called : s.evac.called = true) (idle : s.evac.active = false) (src : Source) :
    s.evacTest src = s.evacStart src := by
  simp [State.evacTest, called, idle]

theorem State.evacTest_ends {s : State} (free : s.evac.called = false) (active : s.evac.active = true) (src : Source) :
    s.evacTest src = s.evacEnd src := by
  simp [State.evacTest, free, active]

theorem State.evacTest_stays {s : State} (agrees : s.evac.active = s.evac.called) (src : Source) : s.evacTest src = s := by
  cases called : s.evac.called <;> simp [State.evacTest, agrees, called]

/-- While commands are taken, the evacuation is active where something calls for it (R148, R172). -/
theorem State.active_eq_called {s : State} {tag : Byte} {c : LinkCommand} (taken : CommandTaken s tag c)
    (law : s.evacLaw) : s.evac.active = s.evac.called := by
  obtain ⟨-, started⟩ := law
  have running : s.part = .running := by
    simp only [CommandTaken, State.offers, State.mayTake, Bool.and_eq_true, decide_eq_true_eq] at taken
    obtain ⟨⟨⟨⟨running, -⟩, -⟩, -⟩, -⟩ := taken
    exact running
  exact started (by simp [State.notStarted, running])

/-! ### The commands (R149) -/

/-- An EVACUATE command sets its hold as it would over the link with its reply. -/
theorem State.takeCommand_setHold {s : State} {tag : Byte} {c : LinkCommand} (taken : CommandTaken s tag c)
    (hold : Bool) :
    s.takeCommand false tag c (fun t => (t.setHold hold).okay) =
      (s.withLink (answered s false tag .ok [])).setHold hold := by
  have apart (l : Link) : (s.withLink l).setHold hold = (s.setHold hold).withLink l :=
    State.evacTest_withLink { s with evac := { s.evac with hold := hold } } l .estate
  rw [State.takeCommand_of_taken taken _ rfl, apart, apart]
  rfl

theorem exec_evacuateStart {s : State} {tag : Byte} (taken : CommandTaken s tag .evacuateStart) :
    exec (.evacuateStart tag) s = .next ((s.withLink (answered s false tag .ok [])).setHold true) :=
  congrArg Host.Outcome.next (State.takeCommand_setHold taken true)

theorem exec_evacuateEnd {s : State} {tag : Byte} (taken : CommandTaken s tag .evacuateEnd) :
    exec (.evacuateEnd tag) s = .next ((s.withLink (answered s false tag .ok [])).setHold false) :=
  congrArg Host.Outcome.next (State.takeCommand_setHold taken false)

section SetHold
variable {s : State} {hold : Bool} (l : Link)

theorem State.setHold_begins (called : ({ s.evac with hold := hold } : Evac).called = true)
    (idle : s.evac.active = false) :
    (s.withLink l).setHold hold =
      ({ s with evac := { s.evac with hold := hold }, link := l } : State).evacStart .estate :=
  State.evacTest_begins (s := { s with evac := { s.evac with hold := hold }, link := l }) called idle .estate

theorem State.setHold_ends (free : ({ s.evac with hold := hold } : Evac).called = false)
    (active : s.evac.active = true) :
    (s.withLink l).setHold hold =
      ({ s with evac := { s.evac with hold := hold }, link := l } : State).evacEnd .estate :=
  State.evacTest_ends (s := { s with evac := { s.evac with hold := hold }, link := l }) free active .estate

/-- The hold alone changes where the evacuation already is as the three items then ask. -/
theorem State.setHold_stays (agrees : s.evac.active = ({ s.evac with hold := hold } : Evac).called) :
    (s.withLink l).setHold hold = { s with evac := { s.evac with hold := hold }, link := l } :=
  State.evacTest_stays (s := { s with evac := { s.evac with hold := hold }, link := l }) agrees .estate

end SetHold

theorem Evac.called_of_hold {e : Evac} (h : e.hold = true) : e.called = true := by
  simp [Evac.called, h]

/-- With the hold cleared, the other two items decide. -/
theorem Evac.called_without_hold (e : Evac) :
    ({ e with hold := false } : Evac).called = (e.held == .active || e.carryOver) := by
  simp [Evac.called]

/-- Settles O41: each command is the evacuation logic's test over the state with its reply given and its hold set; by R148
that test begins, ends or keeps the evacuation. -/
theorem evacuateCommands : Obligations.EvacuateCommands := by
  unfold Obligations.EvacuateCommands
  intro s tag ⟨unique, _⟩ law
  refine ⟨fun taken => ⟨fun idle => ?_, fun active => ?_⟩, fun taken => ⟨fun hold line carry => ?_, fun still => ?_⟩⟩
  · rw [exec_evacuateStart taken]
    exact ⟨_, rfl, evacuationBegun unique .estate (State.setHold_begins _ (Evac.called_of_hold rfl) idle)⟩
  · rw [exec_evacuateStart taken, State.setHold_stays _ (active.trans (Evac.called_of_hold rfl).symm)]
  · have active : s.evac.active = true := (State.active_eq_called taken law).trans (Evac.called_of_hold hold)
    have free : ({ s.evac with hold := false } : Evac).called = false := by
      rw [Evac.called_without_hold, line, carry]
      rfl
    rw [exec_evacuateEnd taken]
    exact ⟨_, rfl, evacuationEnded .estate (State.setHold_ends _ free active)⟩
  · have agrees : s.evac.active = ({ s.evac with hold := false } : Evac).called := by
      rw [State.active_eq_called taken law, Evac.called_without_hold]
      rcases still with free | line | carry
      · simp [Evac.called, free]
      · simp [Evac.called, line]
      · simp [Evac.called, carry]
    rw [exec_evacuateEnd taken, State.setHold_stays _ agrees]

end Sys2Proof.Machine
end
